-- ==== Sys2Proof/Word.lean ====
section
/-! DEFINITION. The machine's two value types: the byte and the 16-bit word (spec 00_scope R12). -/

namespace Sys2Proof

/-- 8 bits, bit 0 least significant (R12). -/
abbrev Byte := BitVec 8

/-- 16 bits, bit 0 least significant (R12): registers, selectors, offsets, port numbers. -/
abbrev Word := BitVec 16

/-- The two operand widths of the ALU (R10, R250). -/
inductive Width where
  | w8
  | w16
deriving DecidableEq, Repr

end Sys2Proof
end

