-- ==== Sys2Proof/Machine/Bits.lean ====
section
/-! DEFINITION. Bit-field, sign-extension and byte-order helpers (spec 00_scope R12, R13; 20_memory R123). -/

namespace Sys2Proof

/-- `lo(v)` of R12: bits 7:0. -/
def lo8 (v : Word) : Byte := v.extractLsb' 0 8

/-- `hi(v)` of R12: bits 15:8. -/
def hi8 (v : Word) : Byte := v.extractLsb' 8 8

/-- `h ++ l` of R12: the word with high byte `h` and low byte `l` (R123: the low byte at the lower offset). -/
def word16 (h l : Byte) : Word := h ++ l

/-- `sext_16` of a byte (R13). -/
def sext8 (b : Byte) : Word := b.signExtend 16

/-- `zext_16` of a byte (R13). -/
def zext8 (b : Byte) : Word := b.setWidth 16

end Sys2Proof
end

