-- ==== Sys2Proof/Syntax.lean ====
section
/-! DEFINITION. The instructions as syntax: registers by name, ModRM operands as the locations they name,
one constructor of `Instr` for each row of spec/opcode_table.json (30_encoding R180, R207, R210). -/

namespace Sys2Proof

/-- The eight byte registers (10_state R52). -/
inductive Reg8 where
  | al
  | cl
  | dl
  | bl
  | ah
  | ch
  | dh
  | bh
deriving DecidableEq, Repr

/-- The eight general registers (10_state R50). -/
inductive Reg16 where
  | ax
  | cx
  | dx
  | bx
  | sp
  | bp
  | si
  | di
deriving DecidableEq, Repr

/-- The four segment registers (10_state R60). -/
inductive SReg where
  | es
  | cs
  | ss
  | ds
deriving DecidableEq, Repr

/-- The eight base/index combinations of the addressing table (30_encoding R191). -/
inductive EABase where
  | bxSi
  | bxDi
  | bpSi
  | bpDi
  | si
  | di
  | bp
  | bx
deriving DecidableEq, Repr

/-- A memory form of the ModRM byte (30_encoding R190 to R195): mode 0 without displacement, mode 1 with a
signed byte, mode 2 with a word, and the direct address (mode 0, r/m 6). -/
inductive MemEA where
  | base (b : EABase)
  | disp8 (b : EABase) (d : Byte)
  | disp16 (b : EABase) (d : Word)
  | direct (d : Word)
deriving DecidableEq, Repr

/-- What the mod and rm fields name: a register of the kind `ρ` (mode 3) or memory (30_encoding R189). -/
inductive Rm (ρ : Type) where
  | reg (r : ρ)
  | mem (m : MemEA)
deriving DecidableEq, Repr

/-- The instructions, one constructor per row of spec/opcode_table.json: those with operands in the
table's order, then those without. The prefixes are rows and so constructors; a slot is a run of prefixes
and one other instruction (R175, log 16). The eight rows of opcode 0x82 repeat the mnemonics of 0x80 with
other words (R205, log 26). -/
inductive Instr where
  /-- 00: ADD r/m8, r8 (R266). -/
  | addRm8R8 (rm : Rm Reg8) (r : Reg8)
  /-- 01: ADD r/m16, r16 (R266). -/
  | addRm16R16 (rm : Rm Reg16) (r : Reg16)
  /-- 02: ADD r8, r/m8 (R266). -/
  | addR8Rm8 (r : Reg8) (rm : Rm Reg8)
  /-- 03: ADD r16, r/m16 (R266). -/
  | addR16Rm16 (r : Reg16) (rm : Rm Reg16)
  /-- 04: ADD AL, imm8 (R266). -/
  | addAlImm8 (imm : Byte)
  /-- 05: ADD AX, imm16 (R266). -/
  | addAxImm16 (imm : Word)
  /-- 08: OR r/m8, r8 (R266). -/
  | orRm8R8 (rm : Rm Reg8) (r : Reg8)
  /-- 09: OR r/m16, r16 (R266). -/
  | orRm16R16 (rm : Rm Reg16) (r : Reg16)
  /-- 0A: OR r8, r/m8 (R266). -/
  | orR8Rm8 (r : Reg8) (rm : Rm Reg8)
  /-- 0B: OR r16, r/m16 (R266). -/
  | orR16Rm16 (r : Reg16) (rm : Rm Reg16)
  /-- 0C: OR AL, imm8 (R266). -/
  | orAlImm8 (imm : Byte)
  /-- 0D: OR AX, imm16 (R266). -/
  | orAxImm16 (imm : Word)
  /-- 10: ADC r/m8, r8 (R266). -/
  | adcRm8R8 (rm : Rm Reg8) (r : Reg8)
  /-- 11: ADC r/m16, r16 (R266). -/
  | adcRm16R16 (rm : Rm Reg16) (r : Reg16)
  /-- 12: ADC r8, r/m8 (R266). -/
  | adcR8Rm8 (r : Reg8) (rm : Rm Reg8)
  /-- 13: ADC r16, r/m16 (R266). -/
  | adcR16Rm16 (r : Reg16) (rm : Rm Reg16)
  /-- 14: ADC AL, imm8 (R266). -/
  | adcAlImm8 (imm : Byte)
  /-- 15: ADC AX, imm16 (R266). -/
  | adcAxImm16 (imm : Word)
  /-- 18: SBB r/m8, r8 (R266). -/
  | sbbRm8R8 (rm : Rm Reg8) (r : Reg8)
  /-- 19: SBB r/m16, r16 (R266). -/
  | sbbRm16R16 (rm : Rm Reg16) (r : Reg16)
  /-- 1A: SBB r8, r/m8 (R266). -/
  | sbbR8Rm8 (r : Reg8) (rm : Rm Reg8)
  /-- 1B: SBB r16, r/m16 (R266). -/
  | sbbR16Rm16 (r : Reg16) (rm : Rm Reg16)
  /-- 1C: SBB AL, imm8 (R266). -/
  | sbbAlImm8 (imm : Byte)
  /-- 1D: SBB AX, imm16 (R266). -/
  | sbbAxImm16 (imm : Word)
  /-- 20: AND r/m8, r8 (R266). -/
  | andRm8R8 (rm : Rm Reg8) (r : Reg8)
  /-- 21: AND r/m16, r16 (R266). -/
  | andRm16R16 (rm : Rm Reg16) (r : Reg16)
  /-- 22: AND r8, r/m8 (R266). -/
  | andR8Rm8 (r : Reg8) (rm : Rm Reg8)
  /-- 23: AND r16, r/m16 (R266). -/
  | andR16Rm16 (r : Reg16) (rm : Rm Reg16)
  /-- 24: AND AL, imm8 (R266). -/
  | andAlImm8 (imm : Byte)
  /-- 25: AND AX, imm16 (R266). -/
  | andAxImm16 (imm : Word)
  /-- 28: SUB r/m8, r8 (R266). -/
  | subRm8R8 (rm : Rm Reg8) (r : Reg8)
  /-- 29: SUB r/m16, r16 (R266). -/
  | subRm16R16 (rm : Rm Reg16) (r : Reg16)
  /-- 2A: SUB r8, r/m8 (R266). -/
  | subR8Rm8 (r : Reg8) (rm : Rm Reg8)
  /-- 2B: SUB r16, r/m16 (R266). -/
  | subR16Rm16 (r : Reg16) (rm : Rm Reg16)
  /-- 2C: SUB AL, imm8 (R266). -/
  | subAlImm8 (imm : Byte)
  /-- 2D: SUB AX, imm16 (R266). -/
  | subAxImm16 (imm : Word)
  /-- 30: XOR r/m8, r8 (R266). -/
  | xorRm8R8 (rm : Rm Reg8) (r : Reg8)
  /-- 31: XOR r/m16, r16 (R266). -/
  | xorRm16R16 (rm : Rm Reg16) (r : Reg16)
  /-- 32: XOR r8, r/m8 (R266). -/
  | xorR8Rm8 (r : Reg8) (rm : Rm Reg8)
  /-- 33: XOR r16, r/m16 (R266). -/
  | xorR16Rm16 (r : Reg16) (rm : Rm Reg16)
  /-- 34: XOR AL, imm8 (R266). -/
  | xorAlImm8 (imm : Byte)
  /-- 35: XOR AX, imm16 (R266). -/
  | xorAxImm16 (imm : Word)
  /-- 38: CMP r/m8, r8 (R266). -/
  | cmpRm8R8 (rm : Rm Reg8) (r : Reg8)
  /-- 39: CMP r/m16, r16 (R266). -/
  | cmpRm16R16 (rm : Rm Reg16) (r : Reg16)
  /-- 3A: CMP r8, r/m8 (R266). -/
  | cmpR8Rm8 (r : Reg8) (rm : Rm Reg8)
  /-- 3B: CMP r16, r/m16 (R266). -/
  | cmpR16Rm16 (r : Reg16) (rm : Rm Reg16)
  /-- 3C: CMP AL, imm8 (R266). -/
  | cmpAlImm8 (imm : Byte)
  /-- 3D: CMP AX, imm16 (R266). -/
  | cmpAxImm16 (imm : Word)
  /-- 40: INC r16 (R272). -/
  | incR16 (r : Reg16)
  /-- 48: DEC r16 (R272). -/
  | decR16 (r : Reg16)
  /-- 50: PUSH r16 (R482). -/
  | pushR16 (r : Reg16)
  /-- 58: POP r16 (R488). -/
  | popR16 (r : Reg16)
  /-- 62: BOUND r16, m16&16 (R548). -/
  | boundR16M (r : Reg16) (m : MemEA)
  /-- 68: PUSH imm16 (R485). -/
  | pushImm16 (imm : Word)
  /-- 69: IMUL r16, r/m16, imm16 (R315). -/
  | imulR16Rm16Imm16 (r : Reg16) (rm : Rm Reg16) (imm : Word)
  /-- 6A: PUSH imm8s (R486). -/
  | pushImm8s (imm : Byte)
  /-- 6B: IMUL r16, r/m16, imm8s (R315). -/
  | imulR16Rm16Imm8s (r : Reg16) (rm : Rm Reg16) (imm : Byte)
  /-- 70: JO rel8 (R518). -/
  | joRel8 (rel : Byte)
  /-- 71: JNO rel8 (R518). -/
  | jnoRel8 (rel : Byte)
  /-- 72: JB rel8 (R518). -/
  | jbRel8 (rel : Byte)
  /-- 73: JAE rel8 (R518). -/
  | jaeRel8 (rel : Byte)
  /-- 74: JE rel8 (R518). -/
  | jeRel8 (rel : Byte)
  /-- 75: JNE rel8 (R518). -/
  | jneRel8 (rel : Byte)
  /-- 76: JBE rel8 (R518). -/
  | jbeRel8 (rel : Byte)
  /-- 77: JA rel8 (R518). -/
  | jaRel8 (rel : Byte)
  /-- 78: JS rel8 (R518). -/
  | jsRel8 (rel : Byte)
  /-- 79: JNS rel8 (R518). -/
  | jnsRel8 (rel : Byte)
  /-- 7A: JP rel8 (R518). -/
  | jpRel8 (rel : Byte)
  /-- 7B: JNP rel8 (R518). -/
  | jnpRel8 (rel : Byte)
  /-- 7C: JL rel8 (R518). -/
  | jlRel8 (rel : Byte)
  /-- 7D: JGE rel8 (R518). -/
  | jgeRel8 (rel : Byte)
  /-- 7E: JLE rel8 (R518). -/
  | jleRel8 (rel : Byte)
  /-- 7F: JG rel8 (R518). -/
  | jgRel8 (rel : Byte)
  /-- 80 /0: ADD r/m8, imm8 (R266). -/
  | addRm8Imm8 (rm : Rm Reg8) (imm : Byte)
  /-- 80 /1: OR r/m8, imm8 (R266). -/
  | orRm8Imm8 (rm : Rm Reg8) (imm : Byte)
  /-- 80 /2: ADC r/m8, imm8 (R266). -/
  | adcRm8Imm8 (rm : Rm Reg8) (imm : Byte)
  /-- 80 /3: SBB r/m8, imm8 (R266). -/
  | sbbRm8Imm8 (rm : Rm Reg8) (imm : Byte)
  /-- 80 /4: AND r/m8, imm8 (R266). -/
  | andRm8Imm8 (rm : Rm Reg8) (imm : Byte)
  /-- 80 /5: SUB r/m8, imm8 (R266). -/
  | subRm8Imm8 (rm : Rm Reg8) (imm : Byte)
  /-- 80 /6: XOR r/m8, imm8 (R266). -/
  | xorRm8Imm8 (rm : Rm Reg8) (imm : Byte)
  /-- 80 /7: CMP r/m8, imm8 (R266). -/
  | cmpRm8Imm8 (rm : Rm Reg8) (imm : Byte)
  /-- 81 /0: ADD r/m16, imm16 (R266). -/
  | addRm16Imm16 (rm : Rm Reg16) (imm : Word)
  /-- 81 /1: OR r/m16, imm16 (R266). -/
  | orRm16Imm16 (rm : Rm Reg16) (imm : Word)
  /-- 81 /2: ADC r/m16, imm16 (R266). -/
  | adcRm16Imm16 (rm : Rm Reg16) (imm : Word)
  /-- 81 /3: SBB r/m16, imm16 (R266). -/
  | sbbRm16Imm16 (rm : Rm Reg16) (imm : Word)
  /-- 81 /4: AND r/m16, imm16 (R266). -/
  | andRm16Imm16 (rm : Rm Reg16) (imm : Word)
  /-- 81 /5: SUB r/m16, imm16 (R266). -/
  | subRm16Imm16 (rm : Rm Reg16) (imm : Word)
  /-- 81 /6: XOR r/m16, imm16 (R266). -/
  | xorRm16Imm16 (rm : Rm Reg16) (imm : Word)
  /-- 81 /7: CMP r/m16, imm16 (R266). -/
  | cmpRm16Imm16 (rm : Rm Reg16) (imm : Word)
  /-- 82 /0: ADD r/m8, imm8 (R266). -/
  | addRm8Imm8Op82 (rm : Rm Reg8) (imm : Byte)
  /-- 82 /1: OR r/m8, imm8 (R266). -/
  | orRm8Imm8Op82 (rm : Rm Reg8) (imm : Byte)
  /-- 82 /2: ADC r/m8, imm8 (R266). -/
  | adcRm8Imm8Op82 (rm : Rm Reg8) (imm : Byte)
  /-- 82 /3: SBB r/m8, imm8 (R266). -/
  | sbbRm8Imm8Op82 (rm : Rm Reg8) (imm : Byte)
  /-- 82 /4: AND r/m8, imm8 (R266). -/
  | andRm8Imm8Op82 (rm : Rm Reg8) (imm : Byte)
  /-- 82 /5: SUB r/m8, imm8 (R266). -/
  | subRm8Imm8Op82 (rm : Rm Reg8) (imm : Byte)
  /-- 82 /6: XOR r/m8, imm8 (R266). -/
  | xorRm8Imm8Op82 (rm : Rm Reg8) (imm : Byte)
  /-- 82 /7: CMP r/m8, imm8 (R266). -/
  | cmpRm8Imm8Op82 (rm : Rm Reg8) (imm : Byte)
  /-- 83 /0: ADD r/m16, imm8s (R266). -/
  | addRm16Imm8s (rm : Rm Reg16) (imm : Byte)
  /-- 83 /1: OR r/m16, imm8s (R266). -/
  | orRm16Imm8s (rm : Rm Reg16) (imm : Byte)
  /-- 83 /2: ADC r/m16, imm8s (R266). -/
  | adcRm16Imm8s (rm : Rm Reg16) (imm : Byte)
  /-- 83 /3: SBB r/m16, imm8s (R266). -/
  | sbbRm16Imm8s (rm : Rm Reg16) (imm : Byte)
  /-- 83 /4: AND r/m16, imm8s (R266). -/
  | andRm16Imm8s (rm : Rm Reg16) (imm : Byte)
  /-- 83 /5: SUB r/m16, imm8s (R266). -/
  | subRm16Imm8s (rm : Rm Reg16) (imm : Byte)
  /-- 83 /6: XOR r/m16, imm8s (R266). -/
  | xorRm16Imm8s (rm : Rm Reg16) (imm : Byte)
  /-- 83 /7: CMP r/m16, imm8s (R266). -/
  | cmpRm16Imm8s (rm : Rm Reg16) (imm : Byte)
  /-- 84: TEST r/m8, r8 (R294). -/
  | testRm8R8 (rm : Rm Reg8) (r : Reg8)
  /-- 85: TEST r/m16, r16 (R294). -/
  | testRm16R16 (rm : Rm Reg16) (r : Reg16)
  /-- 86: XCHG r/m8, r8 (R453). -/
  | xchgRm8R8 (rm : Rm Reg8) (r : Reg8)
  /-- 87: XCHG r/m16, r16 (R453). -/
  | xchgRm16R16 (rm : Rm Reg16) (r : Reg16)
  /-- 88: MOV r/m8, r8 (R440). -/
  | movRm8R8 (rm : Rm Reg8) (r : Reg8)
  /-- 89: MOV r/m16, r16 (R440). -/
  | movRm16R16 (rm : Rm Reg16) (r : Reg16)
  /-- 8A: MOV r8, r/m8 (R441). -/
  | movR8Rm8 (r : Reg8) (rm : Rm Reg8)
  /-- 8B: MOV r16, r/m16 (R441). -/
  | movR16Rm16 (r : Reg16) (rm : Rm Reg16)
  /-- 8C /0: MOV r/m16, ES (R446). -/
  | movRm16Es (rm : Rm Reg16)
  /-- 8C /1: MOV r/m16, CS (R446). -/
  | movRm16Cs (rm : Rm Reg16)
  /-- 8C /2: MOV r/m16, SS (R446). -/
  | movRm16Ss (rm : Rm Reg16)
  /-- 8C /3: MOV r/m16, DS (R446). -/
  | movRm16Ds (rm : Rm Reg16)
  /-- 8D: LEA r16, m (R450). -/
  | leaR16M (r : Reg16) (m : MemEA)
  /-- 8E /0: MOV ES, r/m16 (R447). -/
  | movEsRm16 (rm : Rm Reg16)
  /-- 8E /1: MOV CS, r/m16 (R447). -/
  | movCsRm16 (rm : Rm Reg16)
  /-- 8E /2: MOV SS, r/m16 (R447). -/
  | movSsRm16 (rm : Rm Reg16)
  /-- 8E /3: MOV DS, r/m16 (R447). -/
  | movDsRm16 (rm : Rm Reg16)
  /-- 8F /0: POP r/m16 (R487). -/
  | popRm16 (rm : Rm Reg16)
  /-- 9A: CALL far seg:off (R527). -/
  | callFarDirect (off : Word) (sel : Word)
  /-- A0: MOV AL, moffs8 (R444). -/
  | movAlMoffs8 (addr : Word)
  /-- A1: MOV AX, moffs16 (R444). -/
  | movAxMoffs16 (addr : Word)
  /-- A2: MOV moffs8, AL (R445). -/
  | movMoffs8Al (addr : Word)
  /-- A3: MOV moffs16, AX (R445). -/
  | movMoffs16Ax (addr : Word)
  /-- A8: TEST AL, imm8 (R294). -/
  | testAlImm8 (imm : Byte)
  /-- A9: TEST AX, imm16 (R294). -/
  | testAxImm16 (imm : Word)
  /-- B0: MOV r8, imm8 (R443). -/
  | movR8Imm8 (r : Reg8) (imm : Byte)
  /-- B8: MOV r16, imm16 (R443). -/
  | movR16Imm16 (r : Reg16) (imm : Word)
  /-- C0 /0: ROL r/m8, imm8 (R370). -/
  | rolRm8Imm8 (rm : Rm Reg8) (imm : Byte)
  /-- C0 /1: ROR r/m8, imm8 (R370). -/
  | rorRm8Imm8 (rm : Rm Reg8) (imm : Byte)
  /-- C0 /2: RCL r/m8, imm8 (R370). -/
  | rclRm8Imm8 (rm : Rm Reg8) (imm : Byte)
  /-- C0 /3: RCR r/m8, imm8 (R370). -/
  | rcrRm8Imm8 (rm : Rm Reg8) (imm : Byte)
  /-- C0 /4: SHL r/m8, imm8 (R370). -/
  | shlRm8Imm8 (rm : Rm Reg8) (imm : Byte)
  /-- C0 /5: SHR r/m8, imm8 (R370). -/
  | shrRm8Imm8 (rm : Rm Reg8) (imm : Byte)
  /-- C0 /7: SAR r/m8, imm8 (R370). -/
  | sarRm8Imm8 (rm : Rm Reg8) (imm : Byte)
  /-- C1 /0: ROL r/m16, imm8 (R370). -/
  | rolRm16Imm8 (rm : Rm Reg16) (imm : Byte)
  /-- C1 /1: ROR r/m16, imm8 (R370). -/
  | rorRm16Imm8 (rm : Rm Reg16) (imm : Byte)
  /-- C1 /2: RCL r/m16, imm8 (R370). -/
  | rclRm16Imm8 (rm : Rm Reg16) (imm : Byte)
  /-- C1 /3: RCR r/m16, imm8 (R370). -/
  | rcrRm16Imm8 (rm : Rm Reg16) (imm : Byte)
  /-- C1 /4: SHL r/m16, imm8 (R370). -/
  | shlRm16Imm8 (rm : Rm Reg16) (imm : Byte)
  /-- C1 /5: SHR r/m16, imm8 (R370). -/
  | shrRm16Imm8 (rm : Rm Reg16) (imm : Byte)
  /-- C1 /7: SAR r/m16, imm8 (R370). -/
  | sarRm16Imm8 (rm : Rm Reg16) (imm : Byte)
  /-- D0 /0: ROL r/m8, 1 (R370). -/
  | rolRm8By1 (rm : Rm Reg8)
  /-- D0 /1: ROR r/m8, 1 (R370). -/
  | rorRm8By1 (rm : Rm Reg8)
  /-- D0 /2: RCL r/m8, 1 (R370). -/
  | rclRm8By1 (rm : Rm Reg8)
  /-- D0 /3: RCR r/m8, 1 (R370). -/
  | rcrRm8By1 (rm : Rm Reg8)
  /-- D0 /4: SHL r/m8, 1 (R370). -/
  | shlRm8By1 (rm : Rm Reg8)
  /-- D0 /5: SHR r/m8, 1 (R370). -/
  | shrRm8By1 (rm : Rm Reg8)
  /-- D0 /7: SAR r/m8, 1 (R370). -/
  | sarRm8By1 (rm : Rm Reg8)
  /-- D1 /0: ROL r/m16, 1 (R370). -/
  | rolRm16By1 (rm : Rm Reg16)
  /-- D1 /1: ROR r/m16, 1 (R370). -/
  | rorRm16By1 (rm : Rm Reg16)
  /-- D1 /2: RCL r/m16, 1 (R370). -/
  | rclRm16By1 (rm : Rm Reg16)
  /-- D1 /3: RCR r/m16, 1 (R370). -/
  | rcrRm16By1 (rm : Rm Reg16)
  /-- D1 /4: SHL r/m16, 1 (R370). -/
  | shlRm16By1 (rm : Rm Reg16)
  /-- D1 /5: SHR r/m16, 1 (R370). -/
  | shrRm16By1 (rm : Rm Reg16)
  /-- D1 /7: SAR r/m16, 1 (R370). -/
  | sarRm16By1 (rm : Rm Reg16)
  /-- D2 /0: ROL r/m8, CL (R370). -/
  | rolRm8Cl (rm : Rm Reg8)
  /-- D2 /1: ROR r/m8, CL (R370). -/
  | rorRm8Cl (rm : Rm Reg8)
  /-- D2 /2: RCL r/m8, CL (R370). -/
  | rclRm8Cl (rm : Rm Reg8)
  /-- D2 /3: RCR r/m8, CL (R370). -/
  | rcrRm8Cl (rm : Rm Reg8)
  /-- D2 /4: SHL r/m8, CL (R370). -/
  | shlRm8Cl (rm : Rm Reg8)
  /-- D2 /5: SHR r/m8, CL (R370). -/
  | shrRm8Cl (rm : Rm Reg8)
  /-- D2 /7: SAR r/m8, CL (R370). -/
  | sarRm8Cl (rm : Rm Reg8)
  /-- D3 /0: ROL r/m16, CL (R370). -/
  | rolRm16Cl (rm : Rm Reg16)
  /-- D3 /1: ROR r/m16, CL (R370). -/
  | rorRm16Cl (rm : Rm Reg16)
  /-- D3 /2: RCL r/m16, CL (R370). -/
  | rclRm16Cl (rm : Rm Reg16)
  /-- D3 /3: RCR r/m16, CL (R370). -/
  | rcrRm16Cl (rm : Rm Reg16)
  /-- D3 /4: SHL r/m16, CL (R370). -/
  | shlRm16Cl (rm : Rm Reg16)
  /-- D3 /5: SHR r/m16, CL (R370). -/
  | shrRm16Cl (rm : Rm Reg16)
  /-- D3 /7: SAR r/m16, CL (R370). -/
  | sarRm16Cl (rm : Rm Reg16)
  /-- C2: RET imm16 (R531). -/
  | retImm16 (imm : Word)
  /-- C4: LES r16, m16:16 (R452). -/
  | lesR16M (r : Reg16) (m : MemEA)
  /-- C5: LDS r16, m16:16 (R451). -/
  | ldsR16M (r : Reg16) (m : MemEA)
  /-- C6 /0: MOV r/m8, imm8 (R442). -/
  | movRm8Imm8 (rm : Rm Reg8) (imm : Byte)
  /-- C7 /0: MOV r/m16, imm16 (R442). -/
  | movRm16Imm16 (rm : Rm Reg16) (imm : Word)
  /-- C8: ENTER imm16, imm8 (R492). -/
  | enterImm16Imm8 (size : Word) (level : Byte)
  /-- CA: RETF imm16 (R533). -/
  | retfImm16 (imm : Word)
  /-- CD: INT imm8 (R540). -/
  | intImm8 (imm : Byte)
  /-- D4: AAM imm8 (R384). -/
  | aamImm8 (imm : Byte)
  /-- D5: AAD imm8 (R385). -/
  | aadImm8 (imm : Byte)
  /-- D8: ESC n, r/m (R596). -/
  | esc (n : BitVec 3) (g : BitVec 3) (rm : Rm Reg16)
  /-- E0: LOOPNE rel8 (R522). -/
  | loopneRel8 (rel : Byte)
  /-- E1: LOOPE rel8 (R521). -/
  | loopeRel8 (rel : Byte)
  /-- E2: LOOP rel8 (R520). -/
  | loopRel8 (rel : Byte)
  /-- E3: JCXZ rel8 (R519). -/
  | jcxzRel8 (rel : Byte)
  /-- E4: IN AL, imm8 (R460). -/
  | inAlImm8 (imm : Byte)
  /-- E5: IN AX, imm8 (R460). -/
  | inAxImm8 (imm : Byte)
  /-- E6: OUT imm8, AL (R462). -/
  | outImm8Al (imm : Byte)
  /-- E7: OUT imm8, AX (R462). -/
  | outImm8Ax (imm : Byte)
  /-- E8: CALL rel16 (R525). -/
  | callRel16 (rel : Word)
  /-- E9: JMP rel16 (R513). -/
  | jmpRel16 (rel : Word)
  /-- EA: JMP far seg:off (R514). -/
  | jmpFarDirect (off : Word) (sel : Word)
  /-- EB: JMP rel8 (R512). -/
  | jmpRel8 (rel : Byte)
  /-- F6 /0: TEST r/m8, imm8 (R294). -/
  | testRm8Imm8 (rm : Rm Reg8) (imm : Byte)
  /-- F6 /2: NOT r/m8 (R295). -/
  | notRm8 (rm : Rm Reg8)
  /-- F6 /3: NEG r/m8 (R267). -/
  | negRm8 (rm : Rm Reg8)
  /-- F6 /4: MUL r/m8 (R313). -/
  | mulRm8 (rm : Rm Reg8)
  /-- F6 /5: IMUL r/m8 (R314). -/
  | imulRm8 (rm : Rm Reg8)
  /-- F6 /6: DIV r/m8 (R325). -/
  | divRm8 (rm : Rm Reg8)
  /-- F6 /7: IDIV r/m8 (R325). -/
  | idivRm8 (rm : Rm Reg8)
  /-- F7 /0: TEST r/m16, imm16 (R294). -/
  | testRm16Imm16 (rm : Rm Reg16) (imm : Word)
  /-- F7 /2: NOT r/m16 (R295). -/
  | notRm16 (rm : Rm Reg16)
  /-- F7 /3: NEG r/m16 (R267). -/
  | negRm16 (rm : Rm Reg16)
  /-- F7 /4: MUL r/m16 (R313). -/
  | mulRm16 (rm : Rm Reg16)
  /-- F7 /5: IMUL r/m16 (R314). -/
  | imulRm16 (rm : Rm Reg16)
  /-- F7 /6: DIV r/m16 (R325). -/
  | divRm16 (rm : Rm Reg16)
  /-- F7 /7: IDIV r/m16 (R325). -/
  | idivRm16 (rm : Rm Reg16)
  /-- FE /0: INC r/m8 (R272). -/
  | incRm8 (rm : Rm Reg8)
  /-- FE /1: DEC r/m8 (R272). -/
  | decRm8 (rm : Rm Reg8)
  /-- FF /0: INC r/m16 (R272). -/
  | incRm16 (rm : Rm Reg16)
  /-- FF /1: DEC r/m16 (R272). -/
  | decRm16 (rm : Rm Reg16)
  /-- FF /2: CALL r/m16 (R526). -/
  | callRm16 (rm : Rm Reg16)
  /-- FF /3: CALL far m16:16 (R528). -/
  | callFarMem (m : MemEA)
  /-- FF /4: JMP r/m16 (R515). -/
  | jmpRm16 (rm : Rm Reg16)
  /-- FF /5: JMP far m16:16 (R516). -/
  | jmpFarMem (m : MemEA)
  /-- FF /6: PUSH r/m16 (R484). -/
  | pushRm16 (rm : Rm Reg16)
  /-- 06: PUSH ES (R483). -/
  | pushEs
  /-- 0E: PUSH CS (R483). -/
  | pushCs
  /-- 16: PUSH SS (R483). -/
  | pushSs
  /-- 1E: PUSH DS (R483). -/
  | pushDs
  /-- 07: POP ES (R489). -/
  | popEs
  /-- 17: POP SS (R489). -/
  | popSs
  /-- 1F: POP DS (R489). -/
  | popDs
  /-- 26: ES: (segment override prefix) (R175). -/
  | prefixEs
  /-- 2E: CS: (segment override prefix) (R175). -/
  | prefixCs
  /-- 36: SS: (segment override prefix) (R175). -/
  | prefixSs
  /-- 3E: DS: (segment override prefix) (R175). -/
  | prefixDs
  /-- 27: DAA (R382). -/
  | daa
  /-- 2F: DAS (R383). -/
  | das
  /-- 37: AAA (R380). -/
  | aaa
  /-- 3F: AAS (R381). -/
  | aas
  /-- 60: PUSHA (R490). -/
  | pusha
  /-- 61: POPA (R491). -/
  | popa
  /-- 6C: INSB (R569). -/
  | insb
  /-- 6D: INSW (R569). -/
  | insw
  /-- 6E: OUTSB (R576). -/
  | outsb
  /-- 6F: OUTSW (R576). -/
  | outsw
  /-- 90: NOP (R594). -/
  | nop
  /-- 91: XCHG AX, CX (R454). -/
  | xchgAxCx
  /-- 92: XCHG AX, DX (R454). -/
  | xchgAxDx
  /-- 93: XCHG AX, BX (R454). -/
  | xchgAxBx
  /-- 94: XCHG AX, SP (R454). -/
  | xchgAxSp
  /-- 95: XCHG AX, BP (R454). -/
  | xchgAxBp
  /-- 96: XCHG AX, SI (R454). -/
  | xchgAxSi
  /-- 97: XCHG AX, DI (R454). -/
  | xchgAxDi
  /-- 98: CBW (R456). -/
  | cbw
  /-- 99: CWD (R457). -/
  | cwd
  /-- 9B: WAIT (R595). -/
  | wait
  /-- 9C: PUSHF (R410). -/
  | pushf
  /-- 9D: POPF (R411). -/
  | popf
  /-- 9E: SAHF (R408). -/
  | sahf
  /-- 9F: LAHF (R407). -/
  | lahf
  /-- A4: MOVSB (R564). -/
  | movsb
  /-- A5: MOVSW (R564). -/
  | movsw
  /-- A6: CMPSB (R565). -/
  | cmpsb
  /-- A7: CMPSW (R565). -/
  | cmpsw
  /-- AA: STOSB (R568). -/
  | stosb
  /-- AB: STOSW (R568). -/
  | stosw
  /-- AC: LODSB (R567). -/
  | lodsb
  /-- AD: LODSW (R567). -/
  | lodsw
  /-- AE: SCASB (R566). -/
  | scasb
  /-- AF: SCASW (R566). -/
  | scasw
  /-- C3: RET (R530). -/
  | ret
  /-- C9: LEAVE (R493). -/
  | leave
  /-- CB: RETF (R532). -/
  | retf
  /-- CC: INT3 (R541). -/
  | int3
  /-- CE: INTO (R542). -/
  | into
  /-- CF: IRET (R545). -/
  | iret
  /-- D7: XLAT (R455). -/
  | xlat
  /-- EC: IN AL, DX (R461). -/
  | inAlDx
  /-- ED: IN AX, DX (R461). -/
  | inAxDx
  /-- EE: OUT DX, AL (R463). -/
  | outDxAl
  /-- EF: OUT DX, AX (R463). -/
  | outDxAx
  /-- F0: LOCK (prefix) (R598). -/
  | prefixLock
  /-- F2: REPNE / REPNZ (prefix) (R175). -/
  | prefixRepne
  /-- F3: REP / REPE / REPZ (prefix) (R175). -/
  | prefixRep
  /-- F4: HLT (R590). -/
  | hlt
  /-- F5: CMC (R402). -/
  | cmc
  /-- F8: CLC (R400). -/
  | clc
  /-- F9: STC (R401). -/
  | stc
  /-- FA: CLI (R403). -/
  | cli
  /-- FB: STI (R404). -/
  | sti
  /-- FC: CLD (R405). -/
  | cld
  /-- FD: STD (R406). -/
  | std
deriving DecidableEq, Repr

end Sys2Proof
end

