-- ==== Sys2Proof/WellFormed.lean ====
section
/-! DEFINITION. Which instruction terms have an encoding. The one check: `[BP]` without displacement does not
exist, because mode 0 with r/m 6 is the direct address (30_encoding R195). Every other operand is as wide as
its type. -/

namespace Sys2Proof

/-- A memory form has an encoding unless it is mode 0 with base BP (30_encoding R195). -/
def MemEA.wf : MemEA → Bool
  | .base b => b != .bp
  | .disp8 _ _ => true
  | .disp16 _ _ => true
  | .direct _ => true

/-- A ModRM operand has an encoding unless its memory form has none. -/
def Rm.wf {ρ : Type} : Rm ρ → Bool
  | .reg _ => true
  | .mem m => m.wf

/-- An instruction is well-formed when its ModRM operand, if it has one, has an encoding. -/
def Instr.wf : Instr → Bool
  | .addRm8R8 rm _ => rm.wf
  | .addRm16R16 rm _ => rm.wf
  | .addR8Rm8 _ rm => rm.wf
  | .addR16Rm16 _ rm => rm.wf
  | .addAlImm8 _ => true
  | .addAxImm16 _ => true
  | .orRm8R8 rm _ => rm.wf
  | .orRm16R16 rm _ => rm.wf
  | .orR8Rm8 _ rm => rm.wf
  | .orR16Rm16 _ rm => rm.wf
  | .orAlImm8 _ => true
  | .orAxImm16 _ => true
  | .adcRm8R8 rm _ => rm.wf
  | .adcRm16R16 rm _ => rm.wf
  | .adcR8Rm8 _ rm => rm.wf
  | .adcR16Rm16 _ rm => rm.wf
  | .adcAlImm8 _ => true
  | .adcAxImm16 _ => true
  | .sbbRm8R8 rm _ => rm.wf
  | .sbbRm16R16 rm _ => rm.wf
  | .sbbR8Rm8 _ rm => rm.wf
  | .sbbR16Rm16 _ rm => rm.wf
  | .sbbAlImm8 _ => true
  | .sbbAxImm16 _ => true
  | .andRm8R8 rm _ => rm.wf
  | .andRm16R16 rm _ => rm.wf
  | .andR8Rm8 _ rm => rm.wf
  | .andR16Rm16 _ rm => rm.wf
  | .andAlImm8 _ => true
  | .andAxImm16 _ => true
  | .subRm8R8 rm _ => rm.wf
  | .subRm16R16 rm _ => rm.wf
  | .subR8Rm8 _ rm => rm.wf
  | .subR16Rm16 _ rm => rm.wf
  | .subAlImm8 _ => true
  | .subAxImm16 _ => true
  | .xorRm8R8 rm _ => rm.wf
  | .xorRm16R16 rm _ => rm.wf
  | .xorR8Rm8 _ rm => rm.wf
  | .xorR16Rm16 _ rm => rm.wf
  | .xorAlImm8 _ => true
  | .xorAxImm16 _ => true
  | .cmpRm8R8 rm _ => rm.wf
  | .cmpRm16R16 rm _ => rm.wf
  | .cmpR8Rm8 _ rm => rm.wf
  | .cmpR16Rm16 _ rm => rm.wf
  | .cmpAlImm8 _ => true
  | .cmpAxImm16 _ => true
  | .incR16 _ => true
  | .decR16 _ => true
  | .pushR16 _ => true
  | .popR16 _ => true
  | .boundR16M _ m => m.wf
  | .pushImm16 _ => true
  | .imulR16Rm16Imm16 _ rm _ => rm.wf
  | .pushImm8s _ => true
  | .imulR16Rm16Imm8s _ rm _ => rm.wf
  | .joRel8 _ => true
  | .jnoRel8 _ => true
  | .jbRel8 _ => true
  | .jaeRel8 _ => true
  | .jeRel8 _ => true
  | .jneRel8 _ => true
  | .jbeRel8 _ => true
  | .jaRel8 _ => true
  | .jsRel8 _ => true
  | .jnsRel8 _ => true
  | .jpRel8 _ => true
  | .jnpRel8 _ => true
  | .jlRel8 _ => true
  | .jgeRel8 _ => true
  | .jleRel8 _ => true
  | .jgRel8 _ => true
  | .addRm8Imm8 rm _ => rm.wf
  | .orRm8Imm8 rm _ => rm.wf
  | .adcRm8Imm8 rm _ => rm.wf
  | .sbbRm8Imm8 rm _ => rm.wf
  | .andRm8Imm8 rm _ => rm.wf
  | .subRm8Imm8 rm _ => rm.wf
  | .xorRm8Imm8 rm _ => rm.wf
  | .cmpRm8Imm8 rm _ => rm.wf
  | .addRm16Imm16 rm _ => rm.wf
  | .orRm16Imm16 rm _ => rm.wf
  | .adcRm16Imm16 rm _ => rm.wf
  | .sbbRm16Imm16 rm _ => rm.wf
  | .andRm16Imm16 rm _ => rm.wf
  | .subRm16Imm16 rm _ => rm.wf
  | .xorRm16Imm16 rm _ => rm.wf
  | .cmpRm16Imm16 rm _ => rm.wf
  | .addRm8Imm8Op82 rm _ => rm.wf
  | .orRm8Imm8Op82 rm _ => rm.wf
  | .adcRm8Imm8Op82 rm _ => rm.wf
  | .sbbRm8Imm8Op82 rm _ => rm.wf
  | .andRm8Imm8Op82 rm _ => rm.wf
  | .subRm8Imm8Op82 rm _ => rm.wf
  | .xorRm8Imm8Op82 rm _ => rm.wf
  | .cmpRm8Imm8Op82 rm _ => rm.wf
  | .addRm16Imm8s rm _ => rm.wf
  | .orRm16Imm8s rm _ => rm.wf
  | .adcRm16Imm8s rm _ => rm.wf
  | .sbbRm16Imm8s rm _ => rm.wf
  | .andRm16Imm8s rm _ => rm.wf
  | .subRm16Imm8s rm _ => rm.wf
  | .xorRm16Imm8s rm _ => rm.wf
  | .cmpRm16Imm8s rm _ => rm.wf
  | .testRm8R8 rm _ => rm.wf
  | .testRm16R16 rm _ => rm.wf
  | .xchgRm8R8 rm _ => rm.wf
  | .xchgRm16R16 rm _ => rm.wf
  | .movRm8R8 rm _ => rm.wf
  | .movRm16R16 rm _ => rm.wf
  | .movR8Rm8 _ rm => rm.wf
  | .movR16Rm16 _ rm => rm.wf
  | .movRm16Es rm => rm.wf
  | .movRm16Cs rm => rm.wf
  | .movRm16Ss rm => rm.wf
  | .movRm16Ds rm => rm.wf
  | .leaR16M _ m => m.wf
  | .movEsRm16 rm => rm.wf
  | .movCsRm16 rm => rm.wf
  | .movSsRm16 rm => rm.wf
  | .movDsRm16 rm => rm.wf
  | .popRm16 rm => rm.wf
  | .callFarDirect _ _ => true
  | .movAlMoffs8 _ => true
  | .movAxMoffs16 _ => true
  | .movMoffs8Al _ => true
  | .movMoffs16Ax _ => true
  | .testAlImm8 _ => true
  | .testAxImm16 _ => true
  | .movR8Imm8 _ _ => true
  | .movR16Imm16 _ _ => true
  | .rolRm8Imm8 rm _ => rm.wf
  | .rorRm8Imm8 rm _ => rm.wf
  | .rclRm8Imm8 rm _ => rm.wf
  | .rcrRm8Imm8 rm _ => rm.wf
  | .shlRm8Imm8 rm _ => rm.wf
  | .shrRm8Imm8 rm _ => rm.wf
  | .sarRm8Imm8 rm _ => rm.wf
  | .rolRm16Imm8 rm _ => rm.wf
  | .rorRm16Imm8 rm _ => rm.wf
  | .rclRm16Imm8 rm _ => rm.wf
  | .rcrRm16Imm8 rm _ => rm.wf
  | .shlRm16Imm8 rm _ => rm.wf
  | .shrRm16Imm8 rm _ => rm.wf
  | .sarRm16Imm8 rm _ => rm.wf
  | .rolRm8By1 rm => rm.wf
  | .rorRm8By1 rm => rm.wf
  | .rclRm8By1 rm => rm.wf
  | .rcrRm8By1 rm => rm.wf
  | .shlRm8By1 rm => rm.wf
  | .shrRm8By1 rm => rm.wf
  | .sarRm8By1 rm => rm.wf
  | .rolRm16By1 rm => rm.wf
  | .rorRm16By1 rm => rm.wf
  | .rclRm16By1 rm => rm.wf
  | .rcrRm16By1 rm => rm.wf
  | .shlRm16By1 rm => rm.wf
  | .shrRm16By1 rm => rm.wf
  | .sarRm16By1 rm => rm.wf
  | .rolRm8Cl rm => rm.wf
  | .rorRm8Cl rm => rm.wf
  | .rclRm8Cl rm => rm.wf
  | .rcrRm8Cl rm => rm.wf
  | .shlRm8Cl rm => rm.wf
  | .shrRm8Cl rm => rm.wf
  | .sarRm8Cl rm => rm.wf
  | .rolRm16Cl rm => rm.wf
  | .rorRm16Cl rm => rm.wf
  | .rclRm16Cl rm => rm.wf
  | .rcrRm16Cl rm => rm.wf
  | .shlRm16Cl rm => rm.wf
  | .shrRm16Cl rm => rm.wf
  | .sarRm16Cl rm => rm.wf
  | .retImm16 _ => true
  | .lesR16M _ m => m.wf
  | .ldsR16M _ m => m.wf
  | .movRm8Imm8 rm _ => rm.wf
  | .movRm16Imm16 rm _ => rm.wf
  | .enterImm16Imm8 _ _ => true
  | .retfImm16 _ => true
  | .intImm8 _ => true
  | .aamImm8 _ => true
  | .aadImm8 _ => true
  | .esc _ _ rm => rm.wf
  | .loopneRel8 _ => true
  | .loopeRel8 _ => true
  | .loopRel8 _ => true
  | .jcxzRel8 _ => true
  | .inAlImm8 _ => true
  | .inAxImm8 _ => true
  | .outImm8Al _ => true
  | .outImm8Ax _ => true
  | .callRel16 _ => true
  | .jmpRel16 _ => true
  | .jmpFarDirect _ _ => true
  | .jmpRel8 _ => true
  | .testRm8Imm8 rm _ => rm.wf
  | .notRm8 rm => rm.wf
  | .negRm8 rm => rm.wf
  | .mulRm8 rm => rm.wf
  | .imulRm8 rm => rm.wf
  | .divRm8 rm => rm.wf
  | .idivRm8 rm => rm.wf
  | .testRm16Imm16 rm _ => rm.wf
  | .notRm16 rm => rm.wf
  | .negRm16 rm => rm.wf
  | .mulRm16 rm => rm.wf
  | .imulRm16 rm => rm.wf
  | .divRm16 rm => rm.wf
  | .idivRm16 rm => rm.wf
  | .incRm8 rm => rm.wf
  | .decRm8 rm => rm.wf
  | .incRm16 rm => rm.wf
  | .decRm16 rm => rm.wf
  | .callRm16 rm => rm.wf
  | .callFarMem m => m.wf
  | .jmpRm16 rm => rm.wf
  | .jmpFarMem m => m.wf
  | .pushRm16 rm => rm.wf
  | .pushEs => true
  | .pushCs => true
  | .pushSs => true
  | .pushDs => true
  | .popEs => true
  | .popSs => true
  | .popDs => true
  | .prefixEs => true
  | .prefixCs => true
  | .prefixSs => true
  | .prefixDs => true
  | .daa => true
  | .das => true
  | .aaa => true
  | .aas => true
  | .pusha => true
  | .popa => true
  | .insb => true
  | .insw => true
  | .outsb => true
  | .outsw => true
  | .nop => true
  | .xchgAxCx => true
  | .xchgAxDx => true
  | .xchgAxBx => true
  | .xchgAxSp => true
  | .xchgAxBp => true
  | .xchgAxSi => true
  | .xchgAxDi => true
  | .cbw => true
  | .cwd => true
  | .wait => true
  | .pushf => true
  | .popf => true
  | .sahf => true
  | .lahf => true
  | .movsb => true
  | .movsw => true
  | .cmpsb => true
  | .cmpsw => true
  | .stosb => true
  | .stosw => true
  | .lodsb => true
  | .lodsw => true
  | .scasb => true
  | .scasw => true
  | .ret => true
  | .leave => true
  | .retf => true
  | .int3 => true
  | .into => true
  | .iret => true
  | .xlat => true
  | .inAlDx => true
  | .inAxDx => true
  | .outDxAl => true
  | .outDxAx => true
  | .prefixLock => true
  | .prefixRepne => true
  | .prefixRep => true
  | .hlt => true
  | .cmc => true
  | .clc => true
  | .stc => true
  | .cli => true
  | .sti => true
  | .cld => true
  | .std => true

end Sys2Proof
end

