-- ==== Sys2Proof/Decode.lean ====
section
/-! DEFINITION. The encodings (spec 30_encoding): register numbers, the ModRM byte, the map of the 256 primary
opcodes with its groups, a decoder total on any bytes that rejects by name, and the encoder written from the same
tables. How many bytes an instruction has is read off the same map (R172). -/

namespace Sys2Proof

/-- The number of a byte register (10_state R53). -/
def Reg8.num : Reg8 → BitVec 3
  | .al => 0
  | .cl => 1
  | .dl => 2
  | .bl => 3
  | .ah => 4
  | .ch => 5
  | .dh => 6
  | .bh => 7

/-- The byte register of a number (10_state R53). -/
def Reg8.ofNum (n : BitVec 3) : Reg8 :=
  match n.toNat with
  | 0 => .al
  | 1 => .cl
  | 2 => .dl
  | 3 => .bl
  | 4 => .ah
  | 5 => .ch
  | 6 => .dh
  | _ => .bh

/-- The number of a word register (10_state R51). -/
def Reg16.num : Reg16 → BitVec 3
  | .ax => 0
  | .cx => 1
  | .dx => 2
  | .bx => 3
  | .sp => 4
  | .bp => 5
  | .si => 6
  | .di => 7

/-- The word register of a number (10_state R51). -/
def Reg16.ofNum (n : BitVec 3) : Reg16 :=
  match n.toNat with
  | 0 => .ax
  | 1 => .cx
  | 2 => .dx
  | 3 => .bx
  | 4 => .sp
  | 5 => .bp
  | 6 => .si
  | _ => .di

/-- The number of a segment register (10_state R61), as the reg field of 8C and 8E has it. -/
def SReg.num : SReg → BitVec 3
  | .es => 0
  | .cs => 1
  | .ss => 2
  | .ds => 3

/-- The r/m number of a base/index combination (30_encoding R191). -/
def EABase.num : EABase → BitVec 3
  | .bxSi => 0
  | .bxDi => 1
  | .bpSi => 2
  | .bpDi => 3
  | .si => 4
  | .di => 5
  | .bp => 6
  | .bx => 7

/-- The base/index combination of an r/m number (30_encoding R191). -/
def EABase.ofNum (n : BitVec 3) : EABase :=
  match n.toNat with
  | 0 => .bxSi
  | 1 => .bxDi
  | 2 => .bpSi
  | 3 => .bpDi
  | 4 => .si
  | 5 => .di
  | 6 => .bp
  | _ => .bx

/-- The same location with its register renamed. -/
def Rm.map {ρ σ : Type} (f : ρ → σ) : Rm ρ → Rm σ
  | .reg r => .reg (f r)
  | .mem m => .mem m

/-- A byte operand's location with its register by number. -/
def Rm.nums8 (rm : Rm Reg8) : Rm (BitVec 3) := rm.map Reg8.num

/-- A word operand's location with its register by number. -/
def Rm.nums16 (rm : Rm Reg16) : Rm (BitVec 3) := rm.map Reg16.num

/-- The mod field of a location (30_encoding R188, R190). -/
def Rm.modField : Rm (BitVec 3) → BitVec 2
  | .reg _ => 3
  | .mem (.base _) => 0
  | .mem (.disp8 _ _) => 1
  | .mem (.disp16 _ _) => 2
  | .mem (.direct _) => 0

/-- The rm field of a location (30_encoding R188, R191, R195). -/
def Rm.rmField : Rm (BitVec 3) → BitVec 3
  | .reg n => n
  | .mem (.base b) => b.num
  | .mem (.disp8 b _) => b.num
  | .mem (.disp16 b _) => b.num
  | .mem (.direct _) => 6

/-- The displacement bytes of a location, low byte first (30_encoding R192, R193). -/
def Rm.dispBytes : Rm (BitVec 3) → List Byte
  | .reg _ => []
  | .mem (.base _) => []
  | .mem (.disp8 _ d) => [d]
  | .mem (.disp16 _ d) => [lo8 d, hi8 d]
  | .mem (.direct d) => [lo8 d, hi8 d]

/-- The ModRM byte: mod in bits 7:6, reg in bits 5:3, rm in bits 2:0 (30_encoding R188). -/
def modrmByte (md : BitVec 2) (g n : BitVec 3) : Byte := md ++ g ++ n

/-- The mod field of a ModRM byte (R188). -/
def modOf (m : Byte) : BitVec 2 := m.extractLsb' 6 2

/-- The reg field of a ModRM byte (R188). -/
def regOf (m : Byte) : BitVec 3 := m.extractLsb' 3 3

/-- The rm field of a ModRM byte (R188). -/
def rmOf (m : Byte) : BitVec 3 := m.extractLsb' 0 3

/-- How many displacement bytes follow a ModRM byte (R192). -/
def dispLen (m : Byte) : Nat :=
  match (modOf m).toNat with
  | 0 => if rmOf m = 6 then 2 else 0
  | 1 => 1
  | 2 => 2
  | _ => 0

/-- The bytes of a ModRM operand: the ModRM byte, then its displacement (R170, R192). -/
def modrmBytes (g : BitVec 3) (rm : Rm (BitVec 3)) : List Byte :=
  modrmByte rm.modField g rm.rmField :: rm.dispBytes

/-- Why bytes are no instruction. -/
inductive DecodeError where
  /-- The bytes end inside the instruction. -/
  | truncated
  /-- The primary opcode has no row of the table (R220). -/
  | noRow (op : Byte)
  /-- The reg field selects an invalid cell of the group table or no segment register (R199, R220). -/
  | groupHole (op : Byte) (g : BitVec 3)
  /-- A register form (mod 3) of an instruction whose operand must be memory (R207, R220). -/
  | registerForm (op : Byte)
deriving DecidableEq, Repr

/-- What follows the ModRM operand of an opcode, once the reg field is known (R180): nothing, a byte or a word
immediate, for a byte, word or memory-only operand. -/
inductive RmShape where
  | hole
  | rm8 (f : Rm Reg8 → Instr)
  | rm16 (f : Rm Reg16 → Instr)
  | mem (f : MemEA → Instr)
  | rm8Imm8 (f : Rm Reg8 → Byte → Instr)
  | rm16Imm16 (f : Rm Reg16 → Word → Instr)
  | rm16Imm8 (f : Rm Reg16 → Byte → Instr)

/-- What follows a primary opcode (R180). -/
inductive Shape where
  | invalid
  | plain (i : Instr)
  | imm8 (f : Byte → Instr)
  | imm16 (f : Word → Instr)
  | imm16Imm8 (f : Word → Byte → Instr)
  | far (f : Word → Word → Instr)
  | modrm (f : BitVec 3 → RmShape)

/-- The operations the reg field selects under opcode 80 (R199). -/
def group80 (g : BitVec 3) : RmShape :=
  match g.toNat with
  | 0 => .rm8Imm8 .addRm8Imm8
  | 1 => .rm8Imm8 .orRm8Imm8
  | 2 => .rm8Imm8 .adcRm8Imm8
  | 3 => .rm8Imm8 .sbbRm8Imm8
  | 4 => .rm8Imm8 .andRm8Imm8
  | 5 => .rm8Imm8 .subRm8Imm8
  | 6 => .rm8Imm8 .xorRm8Imm8
  | _ => .rm8Imm8 .cmpRm8Imm8

/-- The operations the reg field selects under opcode 81 (R199). -/
def group81 (g : BitVec 3) : RmShape :=
  match g.toNat with
  | 0 => .rm16Imm16 .addRm16Imm16
  | 1 => .rm16Imm16 .orRm16Imm16
  | 2 => .rm16Imm16 .adcRm16Imm16
  | 3 => .rm16Imm16 .sbbRm16Imm16
  | 4 => .rm16Imm16 .andRm16Imm16
  | 5 => .rm16Imm16 .subRm16Imm16
  | 6 => .rm16Imm16 .xorRm16Imm16
  | _ => .rm16Imm16 .cmpRm16Imm16

/-- The operations the reg field selects under opcode 82 (R199). -/
def group82 (g : BitVec 3) : RmShape :=
  match g.toNat with
  | 0 => .rm8Imm8 .addRm8Imm8Op82
  | 1 => .rm8Imm8 .orRm8Imm8Op82
  | 2 => .rm8Imm8 .adcRm8Imm8Op82
  | 3 => .rm8Imm8 .sbbRm8Imm8Op82
  | 4 => .rm8Imm8 .andRm8Imm8Op82
  | 5 => .rm8Imm8 .subRm8Imm8Op82
  | 6 => .rm8Imm8 .xorRm8Imm8Op82
  | _ => .rm8Imm8 .cmpRm8Imm8Op82

/-- The operations the reg field selects under opcode 83 (R199). -/
def group83 (g : BitVec 3) : RmShape :=
  match g.toNat with
  | 0 => .rm16Imm8 .addRm16Imm8s
  | 1 => .rm16Imm8 .orRm16Imm8s
  | 2 => .rm16Imm8 .adcRm16Imm8s
  | 3 => .rm16Imm8 .sbbRm16Imm8s
  | 4 => .rm16Imm8 .andRm16Imm8s
  | 5 => .rm16Imm8 .subRm16Imm8s
  | 6 => .rm16Imm8 .xorRm16Imm8s
  | _ => .rm16Imm8 .cmpRm16Imm8s

/-- The operations the reg field selects under opcode 8C (R199). -/
def group8C (g : BitVec 3) : RmShape :=
  match g.toNat with
  | 0 => .rm16 .movRm16Es
  | 1 => .rm16 .movRm16Cs
  | 2 => .rm16 .movRm16Ss
  | 3 => .rm16 .movRm16Ds
  | _ => .hole

/-- The operations the reg field selects under opcode 8E (R199). -/
def group8E (g : BitVec 3) : RmShape :=
  match g.toNat with
  | 0 => .rm16 .movEsRm16
  | 1 => .rm16 .movCsRm16
  | 2 => .rm16 .movSsRm16
  | 3 => .rm16 .movDsRm16
  | _ => .hole

/-- The operations the reg field selects under opcode 8F (R199). -/
def group8F (g : BitVec 3) : RmShape :=
  match g.toNat with
  | 0 => .rm16 .popRm16
  | _ => .hole

/-- The operations the reg field selects under opcode C0 (R199). -/
def groupC0 (g : BitVec 3) : RmShape :=
  match g.toNat with
  | 0 => .rm8Imm8 .rolRm8Imm8
  | 1 => .rm8Imm8 .rorRm8Imm8
  | 2 => .rm8Imm8 .rclRm8Imm8
  | 3 => .rm8Imm8 .rcrRm8Imm8
  | 4 => .rm8Imm8 .shlRm8Imm8
  | 5 => .rm8Imm8 .shrRm8Imm8
  | 7 => .rm8Imm8 .sarRm8Imm8
  | _ => .hole

/-- The operations the reg field selects under opcode C1 (R199). -/
def groupC1 (g : BitVec 3) : RmShape :=
  match g.toNat with
  | 0 => .rm16Imm8 .rolRm16Imm8
  | 1 => .rm16Imm8 .rorRm16Imm8
  | 2 => .rm16Imm8 .rclRm16Imm8
  | 3 => .rm16Imm8 .rcrRm16Imm8
  | 4 => .rm16Imm8 .shlRm16Imm8
  | 5 => .rm16Imm8 .shrRm16Imm8
  | 7 => .rm16Imm8 .sarRm16Imm8
  | _ => .hole

/-- The operations the reg field selects under opcode C6 (R199). -/
def groupC6 (g : BitVec 3) : RmShape :=
  match g.toNat with
  | 0 => .rm8Imm8 .movRm8Imm8
  | _ => .hole

/-- The operations the reg field selects under opcode C7 (R199). -/
def groupC7 (g : BitVec 3) : RmShape :=
  match g.toNat with
  | 0 => .rm16Imm16 .movRm16Imm16
  | _ => .hole

/-- The operations the reg field selects under opcode D0 (R199). -/
def groupD0 (g : BitVec 3) : RmShape :=
  match g.toNat with
  | 0 => .rm8 .rolRm8By1
  | 1 => .rm8 .rorRm8By1
  | 2 => .rm8 .rclRm8By1
  | 3 => .rm8 .rcrRm8By1
  | 4 => .rm8 .shlRm8By1
  | 5 => .rm8 .shrRm8By1
  | 7 => .rm8 .sarRm8By1
  | _ => .hole

/-- The operations the reg field selects under opcode D1 (R199). -/
def groupD1 (g : BitVec 3) : RmShape :=
  match g.toNat with
  | 0 => .rm16 .rolRm16By1
  | 1 => .rm16 .rorRm16By1
  | 2 => .rm16 .rclRm16By1
  | 3 => .rm16 .rcrRm16By1
  | 4 => .rm16 .shlRm16By1
  | 5 => .rm16 .shrRm16By1
  | 7 => .rm16 .sarRm16By1
  | _ => .hole

/-- The operations the reg field selects under opcode D2 (R199). -/
def groupD2 (g : BitVec 3) : RmShape :=
  match g.toNat with
  | 0 => .rm8 .rolRm8Cl
  | 1 => .rm8 .rorRm8Cl
  | 2 => .rm8 .rclRm8Cl
  | 3 => .rm8 .rcrRm8Cl
  | 4 => .rm8 .shlRm8Cl
  | 5 => .rm8 .shrRm8Cl
  | 7 => .rm8 .sarRm8Cl
  | _ => .hole

/-- The operations the reg field selects under opcode D3 (R199). -/
def groupD3 (g : BitVec 3) : RmShape :=
  match g.toNat with
  | 0 => .rm16 .rolRm16Cl
  | 1 => .rm16 .rorRm16Cl
  | 2 => .rm16 .rclRm16Cl
  | 3 => .rm16 .rcrRm16Cl
  | 4 => .rm16 .shlRm16Cl
  | 5 => .rm16 .shrRm16Cl
  | 7 => .rm16 .sarRm16Cl
  | _ => .hole

/-- The operations the reg field selects under opcode F6 (R199). -/
def groupF6 (g : BitVec 3) : RmShape :=
  match g.toNat with
  | 0 => .rm8Imm8 .testRm8Imm8
  | 2 => .rm8 .notRm8
  | 3 => .rm8 .negRm8
  | 4 => .rm8 .mulRm8
  | 5 => .rm8 .imulRm8
  | 6 => .rm8 .divRm8
  | 7 => .rm8 .idivRm8
  | _ => .hole

/-- The operations the reg field selects under opcode F7 (R199). -/
def groupF7 (g : BitVec 3) : RmShape :=
  match g.toNat with
  | 0 => .rm16Imm16 .testRm16Imm16
  | 2 => .rm16 .notRm16
  | 3 => .rm16 .negRm16
  | 4 => .rm16 .mulRm16
  | 5 => .rm16 .imulRm16
  | 6 => .rm16 .divRm16
  | 7 => .rm16 .idivRm16
  | _ => .hole

/-- The operations the reg field selects under opcode FE (R199). -/
def groupFE (g : BitVec 3) : RmShape :=
  match g.toNat with
  | 0 => .rm8 .incRm8
  | 1 => .rm8 .decRm8
  | _ => .hole

/-- The operations the reg field selects under opcode FF (R199). -/
def groupFF (g : BitVec 3) : RmShape :=
  match g.toNat with
  | 0 => .rm16 .incRm16
  | 1 => .rm16 .decRm16
  | 2 => .rm16 .callRm16
  | 3 => .mem .callFarMem
  | 4 => .rm16 .jmpRm16
  | 5 => .mem .jmpFarMem
  | 6 => .rm16 .pushRm16
  | _ => .hole

/-- Row 00 to 0F of the opcode map, by the low four bits (R210). -/
def opRow0 : Nat → Shape
  | 0x0 => .modrm fun g => .rm8 fun rm => .addRm8R8 rm (Reg8.ofNum g)
  | 0x1 => .modrm fun g => .rm16 fun rm => .addRm16R16 rm (Reg16.ofNum g)
  | 0x2 => .modrm fun g => .rm8 fun rm => .addR8Rm8 (Reg8.ofNum g) rm
  | 0x3 => .modrm fun g => .rm16 fun rm => .addR16Rm16 (Reg16.ofNum g) rm
  | 0x4 => .imm8 .addAlImm8
  | 0x5 => .imm16 .addAxImm16
  | 0x6 => .plain .pushEs
  | 0x7 => .plain .popEs
  | 0x8 => .modrm fun g => .rm8 fun rm => .orRm8R8 rm (Reg8.ofNum g)
  | 0x9 => .modrm fun g => .rm16 fun rm => .orRm16R16 rm (Reg16.ofNum g)
  | 0xA => .modrm fun g => .rm8 fun rm => .orR8Rm8 (Reg8.ofNum g) rm
  | 0xB => .modrm fun g => .rm16 fun rm => .orR16Rm16 (Reg16.ofNum g) rm
  | 0xC => .imm8 .orAlImm8
  | 0xD => .imm16 .orAxImm16
  | 0xE => .plain .pushCs
  | _ => .invalid

/-- Row 10 to 1F of the opcode map, by the low four bits (R210). -/
def opRow1 : Nat → Shape
  | 0x0 => .modrm fun g => .rm8 fun rm => .adcRm8R8 rm (Reg8.ofNum g)
  | 0x1 => .modrm fun g => .rm16 fun rm => .adcRm16R16 rm (Reg16.ofNum g)
  | 0x2 => .modrm fun g => .rm8 fun rm => .adcR8Rm8 (Reg8.ofNum g) rm
  | 0x3 => .modrm fun g => .rm16 fun rm => .adcR16Rm16 (Reg16.ofNum g) rm
  | 0x4 => .imm8 .adcAlImm8
  | 0x5 => .imm16 .adcAxImm16
  | 0x6 => .plain .pushSs
  | 0x7 => .plain .popSs
  | 0x8 => .modrm fun g => .rm8 fun rm => .sbbRm8R8 rm (Reg8.ofNum g)
  | 0x9 => .modrm fun g => .rm16 fun rm => .sbbRm16R16 rm (Reg16.ofNum g)
  | 0xA => .modrm fun g => .rm8 fun rm => .sbbR8Rm8 (Reg8.ofNum g) rm
  | 0xB => .modrm fun g => .rm16 fun rm => .sbbR16Rm16 (Reg16.ofNum g) rm
  | 0xC => .imm8 .sbbAlImm8
  | 0xD => .imm16 .sbbAxImm16
  | 0xE => .plain .pushDs
  | _ => .plain .popDs

/-- Row 20 to 2F of the opcode map, by the low four bits (R210). -/
def opRow2 : Nat → Shape
  | 0x0 => .modrm fun g => .rm8 fun rm => .andRm8R8 rm (Reg8.ofNum g)
  | 0x1 => .modrm fun g => .rm16 fun rm => .andRm16R16 rm (Reg16.ofNum g)
  | 0x2 => .modrm fun g => .rm8 fun rm => .andR8Rm8 (Reg8.ofNum g) rm
  | 0x3 => .modrm fun g => .rm16 fun rm => .andR16Rm16 (Reg16.ofNum g) rm
  | 0x4 => .imm8 .andAlImm8
  | 0x5 => .imm16 .andAxImm16
  | 0x6 => .plain .prefixEs
  | 0x7 => .plain .daa
  | 0x8 => .modrm fun g => .rm8 fun rm => .subRm8R8 rm (Reg8.ofNum g)
  | 0x9 => .modrm fun g => .rm16 fun rm => .subRm16R16 rm (Reg16.ofNum g)
  | 0xA => .modrm fun g => .rm8 fun rm => .subR8Rm8 (Reg8.ofNum g) rm
  | 0xB => .modrm fun g => .rm16 fun rm => .subR16Rm16 (Reg16.ofNum g) rm
  | 0xC => .imm8 .subAlImm8
  | 0xD => .imm16 .subAxImm16
  | 0xE => .plain .prefixCs
  | _ => .plain .das

/-- Row 30 to 3F of the opcode map, by the low four bits (R210). -/
def opRow3 : Nat → Shape
  | 0x0 => .modrm fun g => .rm8 fun rm => .xorRm8R8 rm (Reg8.ofNum g)
  | 0x1 => .modrm fun g => .rm16 fun rm => .xorRm16R16 rm (Reg16.ofNum g)
  | 0x2 => .modrm fun g => .rm8 fun rm => .xorR8Rm8 (Reg8.ofNum g) rm
  | 0x3 => .modrm fun g => .rm16 fun rm => .xorR16Rm16 (Reg16.ofNum g) rm
  | 0x4 => .imm8 .xorAlImm8
  | 0x5 => .imm16 .xorAxImm16
  | 0x6 => .plain .prefixSs
  | 0x7 => .plain .aaa
  | 0x8 => .modrm fun g => .rm8 fun rm => .cmpRm8R8 rm (Reg8.ofNum g)
  | 0x9 => .modrm fun g => .rm16 fun rm => .cmpRm16R16 rm (Reg16.ofNum g)
  | 0xA => .modrm fun g => .rm8 fun rm => .cmpR8Rm8 (Reg8.ofNum g) rm
  | 0xB => .modrm fun g => .rm16 fun rm => .cmpR16Rm16 (Reg16.ofNum g) rm
  | 0xC => .imm8 .cmpAlImm8
  | 0xD => .imm16 .cmpAxImm16
  | 0xE => .plain .prefixDs
  | _ => .plain .aas

/-- Row 40 to 4F of the opcode map, by the low four bits (R210). -/
def opRow4 : Nat → Shape
  | 0x0 => .plain (.incR16 .ax)
  | 0x1 => .plain (.incR16 .cx)
  | 0x2 => .plain (.incR16 .dx)
  | 0x3 => .plain (.incR16 .bx)
  | 0x4 => .plain (.incR16 .sp)
  | 0x5 => .plain (.incR16 .bp)
  | 0x6 => .plain (.incR16 .si)
  | 0x7 => .plain (.incR16 .di)
  | 0x8 => .plain (.decR16 .ax)
  | 0x9 => .plain (.decR16 .cx)
  | 0xA => .plain (.decR16 .dx)
  | 0xB => .plain (.decR16 .bx)
  | 0xC => .plain (.decR16 .sp)
  | 0xD => .plain (.decR16 .bp)
  | 0xE => .plain (.decR16 .si)
  | _ => .plain (.decR16 .di)

/-- Row 50 to 5F of the opcode map, by the low four bits (R210). -/
def opRow5 : Nat → Shape
  | 0x0 => .plain (.pushR16 .ax)
  | 0x1 => .plain (.pushR16 .cx)
  | 0x2 => .plain (.pushR16 .dx)
  | 0x3 => .plain (.pushR16 .bx)
  | 0x4 => .plain (.pushR16 .sp)
  | 0x5 => .plain (.pushR16 .bp)
  | 0x6 => .plain (.pushR16 .si)
  | 0x7 => .plain (.pushR16 .di)
  | 0x8 => .plain (.popR16 .ax)
  | 0x9 => .plain (.popR16 .cx)
  | 0xA => .plain (.popR16 .dx)
  | 0xB => .plain (.popR16 .bx)
  | 0xC => .plain (.popR16 .sp)
  | 0xD => .plain (.popR16 .bp)
  | 0xE => .plain (.popR16 .si)
  | _ => .plain (.popR16 .di)

/-- Row 60 to 6F of the opcode map, by the low four bits (R210). -/
def opRow6 : Nat → Shape
  | 0x0 => .plain .pusha
  | 0x1 => .plain .popa
  | 0x2 => .modrm fun g => .mem fun m => .boundR16M (Reg16.ofNum g) m
  | 0x8 => .imm16 .pushImm16
  | 0x9 => .modrm fun g => .rm16Imm16 fun rm imm => .imulR16Rm16Imm16 (Reg16.ofNum g) rm imm
  | 0xA => .imm8 .pushImm8s
  | 0xB => .modrm fun g => .rm16Imm8 fun rm imm => .imulR16Rm16Imm8s (Reg16.ofNum g) rm imm
  | 0xC => .plain .insb
  | 0xD => .plain .insw
  | 0xE => .plain .outsb
  | 0xF => .plain .outsw
  | _ => .invalid

/-- Row 70 to 7F of the opcode map, by the low four bits (R210). -/
def opRow7 : Nat → Shape
  | 0x0 => .imm8 .joRel8
  | 0x1 => .imm8 .jnoRel8
  | 0x2 => .imm8 .jbRel8
  | 0x3 => .imm8 .jaeRel8
  | 0x4 => .imm8 .jeRel8
  | 0x5 => .imm8 .jneRel8
  | 0x6 => .imm8 .jbeRel8
  | 0x7 => .imm8 .jaRel8
  | 0x8 => .imm8 .jsRel8
  | 0x9 => .imm8 .jnsRel8
  | 0xA => .imm8 .jpRel8
  | 0xB => .imm8 .jnpRel8
  | 0xC => .imm8 .jlRel8
  | 0xD => .imm8 .jgeRel8
  | 0xE => .imm8 .jleRel8
  | _ => .imm8 .jgRel8

/-- Row 80 to 8F of the opcode map, by the low four bits (R210). -/
def opRow8 : Nat → Shape
  | 0x0 => .modrm group80
  | 0x1 => .modrm group81
  | 0x2 => .modrm group82
  | 0x3 => .modrm group83
  | 0x4 => .modrm fun g => .rm8 fun rm => .testRm8R8 rm (Reg8.ofNum g)
  | 0x5 => .modrm fun g => .rm16 fun rm => .testRm16R16 rm (Reg16.ofNum g)
  | 0x6 => .modrm fun g => .rm8 fun rm => .xchgRm8R8 rm (Reg8.ofNum g)
  | 0x7 => .modrm fun g => .rm16 fun rm => .xchgRm16R16 rm (Reg16.ofNum g)
  | 0x8 => .modrm fun g => .rm8 fun rm => .movRm8R8 rm (Reg8.ofNum g)
  | 0x9 => .modrm fun g => .rm16 fun rm => .movRm16R16 rm (Reg16.ofNum g)
  | 0xA => .modrm fun g => .rm8 fun rm => .movR8Rm8 (Reg8.ofNum g) rm
  | 0xB => .modrm fun g => .rm16 fun rm => .movR16Rm16 (Reg16.ofNum g) rm
  | 0xC => .modrm group8C
  | 0xD => .modrm fun g => .mem fun m => .leaR16M (Reg16.ofNum g) m
  | 0xE => .modrm group8E
  | _ => .modrm group8F

/-- Row 90 to 9F of the opcode map, by the low four bits (R210). -/
def opRow9 : Nat → Shape
  | 0x0 => .plain .nop
  | 0x1 => .plain .xchgAxCx
  | 0x2 => .plain .xchgAxDx
  | 0x3 => .plain .xchgAxBx
  | 0x4 => .plain .xchgAxSp
  | 0x5 => .plain .xchgAxBp
  | 0x6 => .plain .xchgAxSi
  | 0x7 => .plain .xchgAxDi
  | 0x8 => .plain .cbw
  | 0x9 => .plain .cwd
  | 0xA => .far .callFarDirect
  | 0xB => .plain .wait
  | 0xC => .plain .pushf
  | 0xD => .plain .popf
  | 0xE => .plain .sahf
  | _ => .plain .lahf

/-- Row A0 to AF of the opcode map, by the low four bits (R210). -/
def opRowA : Nat → Shape
  | 0x0 => .imm16 .movAlMoffs8
  | 0x1 => .imm16 .movAxMoffs16
  | 0x2 => .imm16 .movMoffs8Al
  | 0x3 => .imm16 .movMoffs16Ax
  | 0x4 => .plain .movsb
  | 0x5 => .plain .movsw
  | 0x6 => .plain .cmpsb
  | 0x7 => .plain .cmpsw
  | 0x8 => .imm8 .testAlImm8
  | 0x9 => .imm16 .testAxImm16
  | 0xA => .plain .stosb
  | 0xB => .plain .stosw
  | 0xC => .plain .lodsb
  | 0xD => .plain .lodsw
  | 0xE => .plain .scasb
  | _ => .plain .scasw

/-- Row B0 to BF of the opcode map, by the low four bits (R210). -/
def opRowB : Nat → Shape
  | 0x0 => .imm8 fun imm => .movR8Imm8 .al imm
  | 0x1 => .imm8 fun imm => .movR8Imm8 .cl imm
  | 0x2 => .imm8 fun imm => .movR8Imm8 .dl imm
  | 0x3 => .imm8 fun imm => .movR8Imm8 .bl imm
  | 0x4 => .imm8 fun imm => .movR8Imm8 .ah imm
  | 0x5 => .imm8 fun imm => .movR8Imm8 .ch imm
  | 0x6 => .imm8 fun imm => .movR8Imm8 .dh imm
  | 0x7 => .imm8 fun imm => .movR8Imm8 .bh imm
  | 0x8 => .imm16 fun imm => .movR16Imm16 .ax imm
  | 0x9 => .imm16 fun imm => .movR16Imm16 .cx imm
  | 0xA => .imm16 fun imm => .movR16Imm16 .dx imm
  | 0xB => .imm16 fun imm => .movR16Imm16 .bx imm
  | 0xC => .imm16 fun imm => .movR16Imm16 .sp imm
  | 0xD => .imm16 fun imm => .movR16Imm16 .bp imm
  | 0xE => .imm16 fun imm => .movR16Imm16 .si imm
  | _ => .imm16 fun imm => .movR16Imm16 .di imm

/-- Row C0 to CF of the opcode map, by the low four bits (R210). -/
def opRowC : Nat → Shape
  | 0x0 => .modrm groupC0
  | 0x1 => .modrm groupC1
  | 0x2 => .imm16 .retImm16
  | 0x3 => .plain .ret
  | 0x4 => .modrm fun g => .mem fun m => .lesR16M (Reg16.ofNum g) m
  | 0x5 => .modrm fun g => .mem fun m => .ldsR16M (Reg16.ofNum g) m
  | 0x6 => .modrm groupC6
  | 0x7 => .modrm groupC7
  | 0x8 => .imm16Imm8 .enterImm16Imm8
  | 0x9 => .plain .leave
  | 0xA => .imm16 .retfImm16
  | 0xB => .plain .retf
  | 0xC => .plain .int3
  | 0xD => .imm8 .intImm8
  | 0xE => .plain .into
  | _ => .plain .iret

/-- Row D0 to DF of the opcode map, by the low four bits (R210). -/
def opRowD : Nat → Shape
  | 0x0 => .modrm groupD0
  | 0x1 => .modrm groupD1
  | 0x2 => .modrm groupD2
  | 0x3 => .modrm groupD3
  | 0x4 => .imm8 .aamImm8
  | 0x5 => .imm8 .aadImm8
  | 0x7 => .plain .xlat
  | 0x8 => .modrm fun g => .rm16 fun rm => .esc 0 g rm
  | 0x9 => .modrm fun g => .rm16 fun rm => .esc 1 g rm
  | 0xA => .modrm fun g => .rm16 fun rm => .esc 2 g rm
  | 0xB => .modrm fun g => .rm16 fun rm => .esc 3 g rm
  | 0xC => .modrm fun g => .rm16 fun rm => .esc 4 g rm
  | 0xD => .modrm fun g => .rm16 fun rm => .esc 5 g rm
  | 0xE => .modrm fun g => .rm16 fun rm => .esc 6 g rm
  | 0xF => .modrm fun g => .rm16 fun rm => .esc 7 g rm
  | _ => .invalid

/-- Row E0 to EF of the opcode map, by the low four bits (R210). -/
def opRowE : Nat → Shape
  | 0x0 => .imm8 .loopneRel8
  | 0x1 => .imm8 .loopeRel8
  | 0x2 => .imm8 .loopRel8
  | 0x3 => .imm8 .jcxzRel8
  | 0x4 => .imm8 .inAlImm8
  | 0x5 => .imm8 .inAxImm8
  | 0x6 => .imm8 .outImm8Al
  | 0x7 => .imm8 .outImm8Ax
  | 0x8 => .imm16 .callRel16
  | 0x9 => .imm16 .jmpRel16
  | 0xA => .far .jmpFarDirect
  | 0xB => .imm8 .jmpRel8
  | 0xC => .plain .inAlDx
  | 0xD => .plain .inAxDx
  | 0xE => .plain .outDxAl
  | _ => .plain .outDxAx

/-- Row F0 to FF of the opcode map, by the low four bits (R210). -/
def opRowF : Nat → Shape
  | 0x0 => .plain .prefixLock
  | 0x2 => .plain .prefixRepne
  | 0x3 => .plain .prefixRep
  | 0x4 => .plain .hlt
  | 0x5 => .plain .cmc
  | 0x6 => .modrm groupF6
  | 0x7 => .modrm groupF7
  | 0x8 => .plain .clc
  | 0x9 => .plain .stc
  | 0xA => .plain .cli
  | 0xB => .plain .sti
  | 0xC => .plain .cld
  | 0xD => .plain .std
  | 0xE => .modrm groupFE
  | 0xF => .modrm groupFF
  | _ => .invalid

/-- The map of the 256 primary opcodes (R210): an opcode in no line is invalid (R220). -/
def opShape (op : Nat) : Shape :=
  match op / 16 with
  | 0x0 => opRow0 (op % 16)
  | 0x1 => opRow1 (op % 16)
  | 0x2 => opRow2 (op % 16)
  | 0x3 => opRow3 (op % 16)
  | 0x4 => opRow4 (op % 16)
  | 0x5 => opRow5 (op % 16)
  | 0x6 => opRow6 (op % 16)
  | 0x7 => opRow7 (op % 16)
  | 0x8 => opRow8 (op % 16)
  | 0x9 => opRow9 (op % 16)
  | 0xA => opRowA (op % 16)
  | 0xB => opRowB (op % 16)
  | 0xC => opRowC (op % 16)
  | 0xD => opRowD (op % 16)
  | 0xE => opRowE (op % 16)
  | _ => opRowF (op % 16)

/-- Whether a ModRM byte follows the opcode (R172). -/
def Shape.hasModRM : Shape → Bool
  | .modrm _ => true
  | .invalid => false
  | .plain _ => false
  | .imm8 _ => false
  | .imm16 _ => false
  | .imm16Imm8 _ => false
  | .far _ => false

/-- How many immediate bytes follow the ModRM operand (R172, R180); a hole of the group table has none. -/
def RmShape.immLen : RmShape → Nat
  | .hole => 0
  | .rm8 _ => 0
  | .rm16 _ => 0
  | .mem _ => 0
  | .rm8Imm8 _ => 1
  | .rm16Imm16 _ => 2
  | .rm16Imm8 _ => 1

/-- How many immediate bytes follow the ModRM operand whose ModRM byte is `m` (R172); none for an opcode without one. -/
def Shape.immLen (m : Byte) : Shape → Nat
  | .invalid => 0
  | .plain _ => 0
  | .imm8 _ => 0
  | .imm16 _ => 0
  | .imm16Imm8 _ => 0
  | .far _ => 0
  | .modrm f => (f (regOf m)).immLen

/-- Whether a ModRM byte has a row: no hole of the group table, and no register form of an operand that must be memory
(R199, R207, R220). -/
def RmShape.hasRow (m : Byte) : RmShape → Bool
  | .hole => false
  | .rm8 _ => true
  | .rm16 _ => true
  | .mem _ => modOf m != 3
  | .rm8Imm8 _ => true
  | .rm16Imm16 _ => true
  | .rm16Imm8 _ => true

/-- Whether an opcode followed by the ModRM byte `m` is a row of the table (R220). -/
def Shape.hasRow (m : Byte) : Shape → Bool
  | .invalid => false
  | .plain _ => true
  | .imm8 _ => true
  | .imm16 _ => true
  | .imm16Imm8 _ => true
  | .far _ => true
  | .modrm f => (f (regOf m)).hasRow m

/-- How many bytes follow the opcode when no ModRM byte does, or the opcode and its ModRM byte `m` when one does
(R172). -/
def Shape.tailLen (m : Byte) : Shape → Nat
  | .invalid => 0
  | .plain _ => 0
  | .imm8 _ => 1
  | .imm16 _ => 2
  | .imm16Imm8 _ => 3
  | .far _ => 4
  | .modrm f => dispLen m + (f (regOf m)).immLen

/-- A ModRM operand and its displacement, read from the front of the bytes: the reg field, the location, the bytes
after it (R190, R192, R195). -/
def readModRM : List Byte → Option (BitVec 3 × Rm (BitVec 3) × List Byte)
  | [] => none
  | m :: rest =>
    match (modOf m).toNat with
    | 0 =>
      if rmOf m = 6 then
        match rest with
        | l :: h :: rest => some (regOf m, .mem (.direct (word16 h l)), rest)
        | _ => none
      else some (regOf m, .mem (.base (EABase.ofNum (rmOf m))), rest)
    | 1 =>
      match rest with
      | d :: rest => some (regOf m, .mem (.disp8 (EABase.ofNum (rmOf m)) d), rest)
      | [] => none
    | 2 =>
      match rest with
      | l :: h :: rest => some (regOf m, .mem (.disp16 (EABase.ofNum (rmOf m)) (word16 h l)), rest)
      | _ => none
    | _ => some (regOf m, .reg (rmOf m), rest)

/-- The instruction of a ModRM opcode whose operand and the bytes after it are given (R205, R207, R220). -/
def RmShape.finish (op : Byte) (g : BitVec 3) (rm : Rm (BitVec 3)) (rest : List Byte) :
    RmShape → Except DecodeError (Instr × List Byte)
  | .hole => .error (.groupHole op g)
  | .rm8 f => .ok (f (rm.map Reg8.ofNum), rest)
  | .rm16 f => .ok (f (rm.map Reg16.ofNum), rest)
  | .mem f =>
    match rm with
    | .mem m => .ok (f m, rest)
    | .reg _ => .error (.registerForm op)
  | .rm8Imm8 f =>
    match rest with
    | i :: rest => .ok (f (rm.map Reg8.ofNum) i, rest)
    | [] => .error .truncated
  | .rm16Imm16 f =>
    match rest with
    | l :: h :: rest => .ok (f (rm.map Reg16.ofNum) (word16 h l), rest)
    | _ => .error .truncated
  | .rm16Imm8 f =>
    match rest with
    | i :: rest => .ok (f (rm.map Reg16.ofNum) i, rest)
    | [] => .error .truncated

/-- The instruction whose opcode has the given shape and is followed by the given bytes (R170, R205). -/
def Shape.finish (op : Byte) (rest : List Byte) : Shape → Except DecodeError (Instr × List Byte)
  | .invalid => .error (.noRow op)
  | .plain i => .ok (i, rest)
  | .imm8 f =>
    match rest with
    | i :: rest => .ok (f i, rest)
    | [] => .error .truncated
  | .imm16 f =>
    match rest with
    | l :: h :: rest => .ok (f (word16 h l), rest)
    | _ => .error .truncated
  | .imm16Imm8 f =>
    match rest with
    | l :: h :: i :: rest => .ok (f (word16 h l) i, rest)
    | _ => .error .truncated
  | .far f =>
    match rest with
    | l :: h :: sl :: sh :: rest => .ok (f (word16 h l) (word16 sh sl), rest)
    | _ => .error .truncated
  | .modrm f =>
    match readModRM rest with
    | some (g, rm, rest) => (f g).finish op g rm rest
    | none => .error .truncated

/-- The decoder: the instruction at the front of the bytes and the bytes after it, or the reason there is none.
A prefix byte is an instruction of its own here; `Machine/Slot.lean` joins prefixes and opcode to one slot. -/
def decode : List Byte → Except DecodeError (Instr × List Byte)
  | [] => .error .truncated
  | op :: rest => (opShape op.toNat).finish op rest

/-- Whether an instruction is a prefix row (R176, R599). -/
def Instr.isPrefix (i : Instr) : Bool :=
  match i with
  | .addRm8R8 _ _ => false
  | .addRm16R16 _ _ => false
  | .addR8Rm8 _ _ => false
  | .addR16Rm16 _ _ => false
  | .addAlImm8 _ => false
  | .addAxImm16 _ => false
  | .orRm8R8 _ _ => false
  | .orRm16R16 _ _ => false
  | .orR8Rm8 _ _ => false
  | .orR16Rm16 _ _ => false
  | .orAlImm8 _ => false
  | .orAxImm16 _ => false
  | .adcRm8R8 _ _ => false
  | .adcRm16R16 _ _ => false
  | .adcR8Rm8 _ _ => false
  | .adcR16Rm16 _ _ => false
  | .adcAlImm8 _ => false
  | .adcAxImm16 _ => false
  | .sbbRm8R8 _ _ => false
  | .sbbRm16R16 _ _ => false
  | .sbbR8Rm8 _ _ => false
  | .sbbR16Rm16 _ _ => false
  | .sbbAlImm8 _ => false
  | .sbbAxImm16 _ => false
  | .andRm8R8 _ _ => false
  | .andRm16R16 _ _ => false
  | .andR8Rm8 _ _ => false
  | .andR16Rm16 _ _ => false
  | .andAlImm8 _ => false
  | .andAxImm16 _ => false
  | .subRm8R8 _ _ => false
  | .subRm16R16 _ _ => false
  | .subR8Rm8 _ _ => false
  | .subR16Rm16 _ _ => false
  | .subAlImm8 _ => false
  | .subAxImm16 _ => false
  | .xorRm8R8 _ _ => false
  | .xorRm16R16 _ _ => false
  | .xorR8Rm8 _ _ => false
  | .xorR16Rm16 _ _ => false
  | .xorAlImm8 _ => false
  | .xorAxImm16 _ => false
  | .cmpRm8R8 _ _ => false
  | .cmpRm16R16 _ _ => false
  | .cmpR8Rm8 _ _ => false
  | .cmpR16Rm16 _ _ => false
  | .cmpAlImm8 _ => false
  | .cmpAxImm16 _ => false
  | .incR16 _ => false
  | .decR16 _ => false
  | .pushR16 _ => false
  | .popR16 _ => false
  | .boundR16M _ _ => false
  | .pushImm16 _ => false
  | .imulR16Rm16Imm16 _ _ _ => false
  | .pushImm8s _ => false
  | .imulR16Rm16Imm8s _ _ _ => false
  | .joRel8 _ => false
  | .jnoRel8 _ => false
  | .jbRel8 _ => false
  | .jaeRel8 _ => false
  | .jeRel8 _ => false
  | .jneRel8 _ => false
  | .jbeRel8 _ => false
  | .jaRel8 _ => false
  | .jsRel8 _ => false
  | .jnsRel8 _ => false
  | .jpRel8 _ => false
  | .jnpRel8 _ => false
  | .jlRel8 _ => false
  | .jgeRel8 _ => false
  | .jleRel8 _ => false
  | .jgRel8 _ => false
  | .addRm8Imm8 _ _ => false
  | .orRm8Imm8 _ _ => false
  | .adcRm8Imm8 _ _ => false
  | .sbbRm8Imm8 _ _ => false
  | .andRm8Imm8 _ _ => false
  | .subRm8Imm8 _ _ => false
  | .xorRm8Imm8 _ _ => false
  | .cmpRm8Imm8 _ _ => false
  | .addRm16Imm16 _ _ => false
  | .orRm16Imm16 _ _ => false
  | .adcRm16Imm16 _ _ => false
  | .sbbRm16Imm16 _ _ => false
  | .andRm16Imm16 _ _ => false
  | .subRm16Imm16 _ _ => false
  | .xorRm16Imm16 _ _ => false
  | .cmpRm16Imm16 _ _ => false
  | .addRm8Imm8Op82 _ _ => false
  | .orRm8Imm8Op82 _ _ => false
  | .adcRm8Imm8Op82 _ _ => false
  | .sbbRm8Imm8Op82 _ _ => false
  | .andRm8Imm8Op82 _ _ => false
  | .subRm8Imm8Op82 _ _ => false
  | .xorRm8Imm8Op82 _ _ => false
  | .cmpRm8Imm8Op82 _ _ => false
  | .addRm16Imm8s _ _ => false
  | .orRm16Imm8s _ _ => false
  | .adcRm16Imm8s _ _ => false
  | .sbbRm16Imm8s _ _ => false
  | .andRm16Imm8s _ _ => false
  | .subRm16Imm8s _ _ => false
  | .xorRm16Imm8s _ _ => false
  | .cmpRm16Imm8s _ _ => false
  | .testRm8R8 _ _ => false
  | .testRm16R16 _ _ => false
  | .xchgRm8R8 _ _ => false
  | .xchgRm16R16 _ _ => false
  | .movRm8R8 _ _ => false
  | .movRm16R16 _ _ => false
  | .movR8Rm8 _ _ => false
  | .movR16Rm16 _ _ => false
  | .movRm16Es _ => false
  | .movRm16Cs _ => false
  | .movRm16Ss _ => false
  | .movRm16Ds _ => false
  | .leaR16M _ _ => false
  | .movEsRm16 _ => false
  | .movCsRm16 _ => false
  | .movSsRm16 _ => false
  | .movDsRm16 _ => false
  | .popRm16 _ => false
  | .callFarDirect _ _ => false
  | .movAlMoffs8 _ => false
  | .movAxMoffs16 _ => false
  | .movMoffs8Al _ => false
  | .movMoffs16Ax _ => false
  | .testAlImm8 _ => false
  | .testAxImm16 _ => false
  | .movR8Imm8 _ _ => false
  | .movR16Imm16 _ _ => false
  | .rolRm8Imm8 _ _ => false
  | .rorRm8Imm8 _ _ => false
  | .rclRm8Imm8 _ _ => false
  | .rcrRm8Imm8 _ _ => false
  | .shlRm8Imm8 _ _ => false
  | .shrRm8Imm8 _ _ => false
  | .sarRm8Imm8 _ _ => false
  | .rolRm16Imm8 _ _ => false
  | .rorRm16Imm8 _ _ => false
  | .rclRm16Imm8 _ _ => false
  | .rcrRm16Imm8 _ _ => false
  | .shlRm16Imm8 _ _ => false
  | .shrRm16Imm8 _ _ => false
  | .sarRm16Imm8 _ _ => false
  | .rolRm8By1 _ => false
  | .rorRm8By1 _ => false
  | .rclRm8By1 _ => false
  | .rcrRm8By1 _ => false
  | .shlRm8By1 _ => false
  | .shrRm8By1 _ => false
  | .sarRm8By1 _ => false
  | .rolRm16By1 _ => false
  | .rorRm16By1 _ => false
  | .rclRm16By1 _ => false
  | .rcrRm16By1 _ => false
  | .shlRm16By1 _ => false
  | .shrRm16By1 _ => false
  | .sarRm16By1 _ => false
  | .rolRm8Cl _ => false
  | .rorRm8Cl _ => false
  | .rclRm8Cl _ => false
  | .rcrRm8Cl _ => false
  | .shlRm8Cl _ => false
  | .shrRm8Cl _ => false
  | .sarRm8Cl _ => false
  | .rolRm16Cl _ => false
  | .rorRm16Cl _ => false
  | .rclRm16Cl _ => false
  | .rcrRm16Cl _ => false
  | .shlRm16Cl _ => false
  | .shrRm16Cl _ => false
  | .sarRm16Cl _ => false
  | .retImm16 _ => false
  | .lesR16M _ _ => false
  | .ldsR16M _ _ => false
  | .movRm8Imm8 _ _ => false
  | .movRm16Imm16 _ _ => false
  | .enterImm16Imm8 _ _ => false
  | .retfImm16 _ => false
  | .intImm8 _ => false
  | .aamImm8 _ => false
  | .aadImm8 _ => false
  | .esc _ _ _ => false
  | .loopneRel8 _ => false
  | .loopeRel8 _ => false
  | .loopRel8 _ => false
  | .jcxzRel8 _ => false
  | .inAlImm8 _ => false
  | .inAxImm8 _ => false
  | .outImm8Al _ => false
  | .outImm8Ax _ => false
  | .callRel16 _ => false
  | .jmpRel16 _ => false
  | .jmpFarDirect _ _ => false
  | .jmpRel8 _ => false
  | .testRm8Imm8 _ _ => false
  | .notRm8 _ => false
  | .negRm8 _ => false
  | .mulRm8 _ => false
  | .imulRm8 _ => false
  | .divRm8 _ => false
  | .idivRm8 _ => false
  | .testRm16Imm16 _ _ => false
  | .notRm16 _ => false
  | .negRm16 _ => false
  | .mulRm16 _ => false
  | .imulRm16 _ => false
  | .divRm16 _ => false
  | .idivRm16 _ => false
  | .incRm8 _ => false
  | .decRm8 _ => false
  | .incRm16 _ => false
  | .decRm16 _ => false
  | .callRm16 _ => false
  | .callFarMem _ => false
  | .jmpRm16 _ => false
  | .jmpFarMem _ => false
  | .pushRm16 _ => false
  | .pushEs => false
  | .pushCs => false
  | .pushSs => false
  | .pushDs => false
  | .popEs => false
  | .popSs => false
  | .popDs => false
  | .prefixEs => true
  | .prefixCs => true
  | .prefixSs => true
  | .prefixDs => true
  | .daa => false
  | .das => false
  | .aaa => false
  | .aas => false
  | .pusha => false
  | .popa => false
  | .insb => false
  | .insw => false
  | .outsb => false
  | .outsw => false
  | .nop => false
  | .xchgAxCx => false
  | .xchgAxDx => false
  | .xchgAxBx => false
  | .xchgAxSp => false
  | .xchgAxBp => false
  | .xchgAxSi => false
  | .xchgAxDi => false
  | .cbw => false
  | .cwd => false
  | .wait => false
  | .pushf => false
  | .popf => false
  | .sahf => false
  | .lahf => false
  | .movsb => false
  | .movsw => false
  | .cmpsb => false
  | .cmpsw => false
  | .stosb => false
  | .stosw => false
  | .lodsb => false
  | .lodsw => false
  | .scasb => false
  | .scasw => false
  | .ret => false
  | .leave => false
  | .retf => false
  | .int3 => false
  | .into => false
  | .iret => false
  | .xlat => false
  | .inAlDx => false
  | .inAxDx => false
  | .outDxAl => false
  | .outDxAx => false
  | .prefixLock => true
  | .prefixRepne => true
  | .prefixRep => true
  | .hlt => false
  | .cmc => false
  | .clc => false
  | .stc => false
  | .cli => false
  | .sti => false
  | .cld => false
  | .std => false

/-- A word's two bytes, low byte first (20_memory R123). -/
def wordBytes (v : Word) : List Byte := [lo8 v, hi8 v]

/-- A ModRM instruction with a byte operand: opcode, reg field, location. -/
def encRm8 (op : Byte) (g : BitVec 3) (rm : Rm Reg8) : List Byte := op :: modrmBytes g rm.nums8

/-- A ModRM instruction with a word operand: opcode, reg field, location. -/
def encRm16 (op : Byte) (g : BitVec 3) (rm : Rm Reg16) : List Byte := op :: modrmBytes g rm.nums16

/-- A ModRM instruction whose operand is memory. -/
def encMem (op : Byte) (g : BitVec 3) (m : MemEA) : List Byte := op :: modrmBytes g (.mem m)

/-- The encoder: the bytes of an instruction, prefixes none (R170, R180, R210). -/
def encode : Instr → List Byte
  | .addRm8R8 rm r => encRm8 0x00 r.num rm
  | .addRm16R16 rm r => encRm16 0x01 r.num rm
  | .addR8Rm8 r rm => encRm8 0x02 r.num rm
  | .addR16Rm16 r rm => encRm16 0x03 r.num rm
  | .addAlImm8 imm => [0x04, imm]
  | .addAxImm16 imm => 0x05 :: wordBytes imm
  | .orRm8R8 rm r => encRm8 0x08 r.num rm
  | .orRm16R16 rm r => encRm16 0x09 r.num rm
  | .orR8Rm8 r rm => encRm8 0x0A r.num rm
  | .orR16Rm16 r rm => encRm16 0x0B r.num rm
  | .orAlImm8 imm => [0x0C, imm]
  | .orAxImm16 imm => 0x0D :: wordBytes imm
  | .adcRm8R8 rm r => encRm8 0x10 r.num rm
  | .adcRm16R16 rm r => encRm16 0x11 r.num rm
  | .adcR8Rm8 r rm => encRm8 0x12 r.num rm
  | .adcR16Rm16 r rm => encRm16 0x13 r.num rm
  | .adcAlImm8 imm => [0x14, imm]
  | .adcAxImm16 imm => 0x15 :: wordBytes imm
  | .sbbRm8R8 rm r => encRm8 0x18 r.num rm
  | .sbbRm16R16 rm r => encRm16 0x19 r.num rm
  | .sbbR8Rm8 r rm => encRm8 0x1A r.num rm
  | .sbbR16Rm16 r rm => encRm16 0x1B r.num rm
  | .sbbAlImm8 imm => [0x1C, imm]
  | .sbbAxImm16 imm => 0x1D :: wordBytes imm
  | .andRm8R8 rm r => encRm8 0x20 r.num rm
  | .andRm16R16 rm r => encRm16 0x21 r.num rm
  | .andR8Rm8 r rm => encRm8 0x22 r.num rm
  | .andR16Rm16 r rm => encRm16 0x23 r.num rm
  | .andAlImm8 imm => [0x24, imm]
  | .andAxImm16 imm => 0x25 :: wordBytes imm
  | .subRm8R8 rm r => encRm8 0x28 r.num rm
  | .subRm16R16 rm r => encRm16 0x29 r.num rm
  | .subR8Rm8 r rm => encRm8 0x2A r.num rm
  | .subR16Rm16 r rm => encRm16 0x2B r.num rm
  | .subAlImm8 imm => [0x2C, imm]
  | .subAxImm16 imm => 0x2D :: wordBytes imm
  | .xorRm8R8 rm r => encRm8 0x30 r.num rm
  | .xorRm16R16 rm r => encRm16 0x31 r.num rm
  | .xorR8Rm8 r rm => encRm8 0x32 r.num rm
  | .xorR16Rm16 r rm => encRm16 0x33 r.num rm
  | .xorAlImm8 imm => [0x34, imm]
  | .xorAxImm16 imm => 0x35 :: wordBytes imm
  | .cmpRm8R8 rm r => encRm8 0x38 r.num rm
  | .cmpRm16R16 rm r => encRm16 0x39 r.num rm
  | .cmpR8Rm8 r rm => encRm8 0x3A r.num rm
  | .cmpR16Rm16 r rm => encRm16 0x3B r.num rm
  | .cmpAlImm8 imm => [0x3C, imm]
  | .cmpAxImm16 imm => 0x3D :: wordBytes imm
  | .incR16 r => [0x40 ||| r.num.setWidth 8]
  | .decR16 r => [0x48 ||| r.num.setWidth 8]
  | .pushR16 r => [0x50 ||| r.num.setWidth 8]
  | .popR16 r => [0x58 ||| r.num.setWidth 8]
  | .boundR16M r m => encMem 0x62 r.num m
  | .pushImm16 imm => 0x68 :: wordBytes imm
  | .imulR16Rm16Imm16 r rm imm => encRm16 0x69 r.num rm ++ wordBytes imm
  | .pushImm8s imm => [0x6A, imm]
  | .imulR16Rm16Imm8s r rm imm => encRm16 0x6B r.num rm ++ [imm]
  | .joRel8 rel => [0x70, rel]
  | .jnoRel8 rel => [0x71, rel]
  | .jbRel8 rel => [0x72, rel]
  | .jaeRel8 rel => [0x73, rel]
  | .jeRel8 rel => [0x74, rel]
  | .jneRel8 rel => [0x75, rel]
  | .jbeRel8 rel => [0x76, rel]
  | .jaRel8 rel => [0x77, rel]
  | .jsRel8 rel => [0x78, rel]
  | .jnsRel8 rel => [0x79, rel]
  | .jpRel8 rel => [0x7A, rel]
  | .jnpRel8 rel => [0x7B, rel]
  | .jlRel8 rel => [0x7C, rel]
  | .jgeRel8 rel => [0x7D, rel]
  | .jleRel8 rel => [0x7E, rel]
  | .jgRel8 rel => [0x7F, rel]
  | .addRm8Imm8 rm imm => encRm8 0x80 0 rm ++ [imm]
  | .orRm8Imm8 rm imm => encRm8 0x80 1 rm ++ [imm]
  | .adcRm8Imm8 rm imm => encRm8 0x80 2 rm ++ [imm]
  | .sbbRm8Imm8 rm imm => encRm8 0x80 3 rm ++ [imm]
  | .andRm8Imm8 rm imm => encRm8 0x80 4 rm ++ [imm]
  | .subRm8Imm8 rm imm => encRm8 0x80 5 rm ++ [imm]
  | .xorRm8Imm8 rm imm => encRm8 0x80 6 rm ++ [imm]
  | .cmpRm8Imm8 rm imm => encRm8 0x80 7 rm ++ [imm]
  | .addRm16Imm16 rm imm => encRm16 0x81 0 rm ++ wordBytes imm
  | .orRm16Imm16 rm imm => encRm16 0x81 1 rm ++ wordBytes imm
  | .adcRm16Imm16 rm imm => encRm16 0x81 2 rm ++ wordBytes imm
  | .sbbRm16Imm16 rm imm => encRm16 0x81 3 rm ++ wordBytes imm
  | .andRm16Imm16 rm imm => encRm16 0x81 4 rm ++ wordBytes imm
  | .subRm16Imm16 rm imm => encRm16 0x81 5 rm ++ wordBytes imm
  | .xorRm16Imm16 rm imm => encRm16 0x81 6 rm ++ wordBytes imm
  | .cmpRm16Imm16 rm imm => encRm16 0x81 7 rm ++ wordBytes imm
  | .addRm8Imm8Op82 rm imm => encRm8 0x82 0 rm ++ [imm]
  | .orRm8Imm8Op82 rm imm => encRm8 0x82 1 rm ++ [imm]
  | .adcRm8Imm8Op82 rm imm => encRm8 0x82 2 rm ++ [imm]
  | .sbbRm8Imm8Op82 rm imm => encRm8 0x82 3 rm ++ [imm]
  | .andRm8Imm8Op82 rm imm => encRm8 0x82 4 rm ++ [imm]
  | .subRm8Imm8Op82 rm imm => encRm8 0x82 5 rm ++ [imm]
  | .xorRm8Imm8Op82 rm imm => encRm8 0x82 6 rm ++ [imm]
  | .cmpRm8Imm8Op82 rm imm => encRm8 0x82 7 rm ++ [imm]
  | .addRm16Imm8s rm imm => encRm16 0x83 0 rm ++ [imm]
  | .orRm16Imm8s rm imm => encRm16 0x83 1 rm ++ [imm]
  | .adcRm16Imm8s rm imm => encRm16 0x83 2 rm ++ [imm]
  | .sbbRm16Imm8s rm imm => encRm16 0x83 3 rm ++ [imm]
  | .andRm16Imm8s rm imm => encRm16 0x83 4 rm ++ [imm]
  | .subRm16Imm8s rm imm => encRm16 0x83 5 rm ++ [imm]
  | .xorRm16Imm8s rm imm => encRm16 0x83 6 rm ++ [imm]
  | .cmpRm16Imm8s rm imm => encRm16 0x83 7 rm ++ [imm]
  | .testRm8R8 rm r => encRm8 0x84 r.num rm
  | .testRm16R16 rm r => encRm16 0x85 r.num rm
  | .xchgRm8R8 rm r => encRm8 0x86 r.num rm
  | .xchgRm16R16 rm r => encRm16 0x87 r.num rm
  | .movRm8R8 rm r => encRm8 0x88 r.num rm
  | .movRm16R16 rm r => encRm16 0x89 r.num rm
  | .movR8Rm8 r rm => encRm8 0x8A r.num rm
  | .movR16Rm16 r rm => encRm16 0x8B r.num rm
  | .movRm16Es rm => encRm16 0x8C 0 rm
  | .movRm16Cs rm => encRm16 0x8C 1 rm
  | .movRm16Ss rm => encRm16 0x8C 2 rm
  | .movRm16Ds rm => encRm16 0x8C 3 rm
  | .leaR16M r m => encMem 0x8D r.num m
  | .movEsRm16 rm => encRm16 0x8E 0 rm
  | .movCsRm16 rm => encRm16 0x8E 1 rm
  | .movSsRm16 rm => encRm16 0x8E 2 rm
  | .movDsRm16 rm => encRm16 0x8E 3 rm
  | .popRm16 rm => encRm16 0x8F 0 rm
  | .callFarDirect off sel => 0x9A :: (wordBytes off ++ wordBytes sel)
  | .movAlMoffs8 addr => 0xA0 :: wordBytes addr
  | .movAxMoffs16 addr => 0xA1 :: wordBytes addr
  | .movMoffs8Al addr => 0xA2 :: wordBytes addr
  | .movMoffs16Ax addr => 0xA3 :: wordBytes addr
  | .testAlImm8 imm => [0xA8, imm]
  | .testAxImm16 imm => 0xA9 :: wordBytes imm
  | .movR8Imm8 r imm => (0xB0 ||| r.num.setWidth 8) :: [imm]
  | .movR16Imm16 r imm => (0xB8 ||| r.num.setWidth 8) :: wordBytes imm
  | .rolRm8Imm8 rm imm => encRm8 0xC0 0 rm ++ [imm]
  | .rorRm8Imm8 rm imm => encRm8 0xC0 1 rm ++ [imm]
  | .rclRm8Imm8 rm imm => encRm8 0xC0 2 rm ++ [imm]
  | .rcrRm8Imm8 rm imm => encRm8 0xC0 3 rm ++ [imm]
  | .shlRm8Imm8 rm imm => encRm8 0xC0 4 rm ++ [imm]
  | .shrRm8Imm8 rm imm => encRm8 0xC0 5 rm ++ [imm]
  | .sarRm8Imm8 rm imm => encRm8 0xC0 7 rm ++ [imm]
  | .rolRm16Imm8 rm imm => encRm16 0xC1 0 rm ++ [imm]
  | .rorRm16Imm8 rm imm => encRm16 0xC1 1 rm ++ [imm]
  | .rclRm16Imm8 rm imm => encRm16 0xC1 2 rm ++ [imm]
  | .rcrRm16Imm8 rm imm => encRm16 0xC1 3 rm ++ [imm]
  | .shlRm16Imm8 rm imm => encRm16 0xC1 4 rm ++ [imm]
  | .shrRm16Imm8 rm imm => encRm16 0xC1 5 rm ++ [imm]
  | .sarRm16Imm8 rm imm => encRm16 0xC1 7 rm ++ [imm]
  | .rolRm8By1 rm => encRm8 0xD0 0 rm
  | .rorRm8By1 rm => encRm8 0xD0 1 rm
  | .rclRm8By1 rm => encRm8 0xD0 2 rm
  | .rcrRm8By1 rm => encRm8 0xD0 3 rm
  | .shlRm8By1 rm => encRm8 0xD0 4 rm
  | .shrRm8By1 rm => encRm8 0xD0 5 rm
  | .sarRm8By1 rm => encRm8 0xD0 7 rm
  | .rolRm16By1 rm => encRm16 0xD1 0 rm
  | .rorRm16By1 rm => encRm16 0xD1 1 rm
  | .rclRm16By1 rm => encRm16 0xD1 2 rm
  | .rcrRm16By1 rm => encRm16 0xD1 3 rm
  | .shlRm16By1 rm => encRm16 0xD1 4 rm
  | .shrRm16By1 rm => encRm16 0xD1 5 rm
  | .sarRm16By1 rm => encRm16 0xD1 7 rm
  | .rolRm8Cl rm => encRm8 0xD2 0 rm
  | .rorRm8Cl rm => encRm8 0xD2 1 rm
  | .rclRm8Cl rm => encRm8 0xD2 2 rm
  | .rcrRm8Cl rm => encRm8 0xD2 3 rm
  | .shlRm8Cl rm => encRm8 0xD2 4 rm
  | .shrRm8Cl rm => encRm8 0xD2 5 rm
  | .sarRm8Cl rm => encRm8 0xD2 7 rm
  | .rolRm16Cl rm => encRm16 0xD3 0 rm
  | .rorRm16Cl rm => encRm16 0xD3 1 rm
  | .rclRm16Cl rm => encRm16 0xD3 2 rm
  | .rcrRm16Cl rm => encRm16 0xD3 3 rm
  | .shlRm16Cl rm => encRm16 0xD3 4 rm
  | .shrRm16Cl rm => encRm16 0xD3 5 rm
  | .sarRm16Cl rm => encRm16 0xD3 7 rm
  | .retImm16 imm => 0xC2 :: wordBytes imm
  | .lesR16M r m => encMem 0xC4 r.num m
  | .ldsR16M r m => encMem 0xC5 r.num m
  | .movRm8Imm8 rm imm => encRm8 0xC6 0 rm ++ [imm]
  | .movRm16Imm16 rm imm => encRm16 0xC7 0 rm ++ wordBytes imm
  | .enterImm16Imm8 size level => 0xC8 :: (wordBytes size ++ [level])
  | .retfImm16 imm => 0xCA :: wordBytes imm
  | .intImm8 imm => [0xCD, imm]
  | .aamImm8 imm => [0xD4, imm]
  | .aadImm8 imm => [0xD5, imm]
  | .esc n g rm => encRm16 (0xD8 ||| n.setWidth 8) g rm
  | .loopneRel8 rel => [0xE0, rel]
  | .loopeRel8 rel => [0xE1, rel]
  | .loopRel8 rel => [0xE2, rel]
  | .jcxzRel8 rel => [0xE3, rel]
  | .inAlImm8 imm => [0xE4, imm]
  | .inAxImm8 imm => [0xE5, imm]
  | .outImm8Al imm => [0xE6, imm]
  | .outImm8Ax imm => [0xE7, imm]
  | .callRel16 rel => 0xE8 :: wordBytes rel
  | .jmpRel16 rel => 0xE9 :: wordBytes rel
  | .jmpFarDirect off sel => 0xEA :: (wordBytes off ++ wordBytes sel)
  | .jmpRel8 rel => [0xEB, rel]
  | .testRm8Imm8 rm imm => encRm8 0xF6 0 rm ++ [imm]
  | .notRm8 rm => encRm8 0xF6 2 rm
  | .negRm8 rm => encRm8 0xF6 3 rm
  | .mulRm8 rm => encRm8 0xF6 4 rm
  | .imulRm8 rm => encRm8 0xF6 5 rm
  | .divRm8 rm => encRm8 0xF6 6 rm
  | .idivRm8 rm => encRm8 0xF6 7 rm
  | .testRm16Imm16 rm imm => encRm16 0xF7 0 rm ++ wordBytes imm
  | .notRm16 rm => encRm16 0xF7 2 rm
  | .negRm16 rm => encRm16 0xF7 3 rm
  | .mulRm16 rm => encRm16 0xF7 4 rm
  | .imulRm16 rm => encRm16 0xF7 5 rm
  | .divRm16 rm => encRm16 0xF7 6 rm
  | .idivRm16 rm => encRm16 0xF7 7 rm
  | .incRm8 rm => encRm8 0xFE 0 rm
  | .decRm8 rm => encRm8 0xFE 1 rm
  | .incRm16 rm => encRm16 0xFF 0 rm
  | .decRm16 rm => encRm16 0xFF 1 rm
  | .callRm16 rm => encRm16 0xFF 2 rm
  | .callFarMem m => encMem 0xFF 3 m
  | .jmpRm16 rm => encRm16 0xFF 4 rm
  | .jmpFarMem m => encMem 0xFF 5 m
  | .pushRm16 rm => encRm16 0xFF 6 rm
  | .pushEs => [0x06]
  | .pushCs => [0x0E]
  | .pushSs => [0x16]
  | .pushDs => [0x1E]
  | .popEs => [0x07]
  | .popSs => [0x17]
  | .popDs => [0x1F]
  | .prefixEs => [0x26]
  | .prefixCs => [0x2E]
  | .prefixSs => [0x36]
  | .prefixDs => [0x3E]
  | .daa => [0x27]
  | .das => [0x2F]
  | .aaa => [0x37]
  | .aas => [0x3F]
  | .pusha => [0x60]
  | .popa => [0x61]
  | .insb => [0x6C]
  | .insw => [0x6D]
  | .outsb => [0x6E]
  | .outsw => [0x6F]
  | .nop => [0x90]
  | .xchgAxCx => [0x91]
  | .xchgAxDx => [0x92]
  | .xchgAxBx => [0x93]
  | .xchgAxSp => [0x94]
  | .xchgAxBp => [0x95]
  | .xchgAxSi => [0x96]
  | .xchgAxDi => [0x97]
  | .cbw => [0x98]
  | .cwd => [0x99]
  | .wait => [0x9B]
  | .pushf => [0x9C]
  | .popf => [0x9D]
  | .sahf => [0x9E]
  | .lahf => [0x9F]
  | .movsb => [0xA4]
  | .movsw => [0xA5]
  | .cmpsb => [0xA6]
  | .cmpsw => [0xA7]
  | .stosb => [0xAA]
  | .stosw => [0xAB]
  | .lodsb => [0xAC]
  | .lodsw => [0xAD]
  | .scasb => [0xAE]
  | .scasw => [0xAF]
  | .ret => [0xC3]
  | .leave => [0xC9]
  | .retf => [0xCB]
  | .int3 => [0xCC]
  | .into => [0xCE]
  | .iret => [0xCF]
  | .xlat => [0xD7]
  | .inAlDx => [0xEC]
  | .inAxDx => [0xED]
  | .outDxAl => [0xEE]
  | .outDxAx => [0xEF]
  | .prefixLock => [0xF0]
  | .prefixRepne => [0xF2]
  | .prefixRep => [0xF3]
  | .hlt => [0xF4]
  | .cmc => [0xF5]
  | .clc => [0xF8]
  | .stc => [0xF9]
  | .cli => [0xFA]
  | .sti => [0xFB]
  | .cld => [0xFC]
  | .std => [0xFD]

/-- The first `k` bytes of an instruction whose table number is `w`: spec/opcode_table.json numbers the pair (opcode,
ModRM) as `opcode << 8 | ModRM` (30_encoding R240), so the first byte is the most significant one. Log 17. -/
def tableBytes : Nat → Nat → List Byte
  | 0, _ => []
  | k + 1, w => BitVec.ofNat 8 (w >>> (8 * k)) :: tableBytes k w

/-- The bytes of a table number of `nbits` bits followed by zeros, longer than any instruction. Log 17. -/
def tableWordBytes (nbits w : Nat) : List Byte := tableBytes ((nbits + 7) / 8) w ++ List.replicate 7 0

/-- The instruction the decoder reads from an instruction whose bits are `w`, numbered as spec/opcode_table.json
numbers them (30_encoding R240), the bytes above being zero. Log 17. -/
def decodeTableWord (nbits w : Nat) : Option Instr :=
  match decode (tableWordBytes nbits w) with
  | .ok (i, _) => some i
  | .error _ => none

end Sys2Proof
end

