-- ==== Sys2Proof/Config.lean ====
section
/-! DEFINITION. What an implementation or its host fixes (spec 00_scope R11) as plain data, and the free
values: constants with no body, of which nothing can be proved but what holds of every value. -/

namespace Sys2Proof

/-- ROT_EFF0 (43 R342): a rotate whose raw count is not 0 and whose effective count is 0. -/
inductive RotEff0 where
  | noop
  | setcf
deriving DecidableEq, Repr

/-- The four rotates. -/
inductive RotateKind where
  | rol
  | ror
  | rcl
  | rcr
deriving DecidableEq, Repr

/-- The three shifts. -/
inductive ShiftKind where
  | shl
  | shr
  | sar
deriving DecidableEq, Repr

/-- The arguments of the function ROT_OF_MULTI (43 R350): the rotate, its width, its operand, the effective count and
the old CF. -/
structure RotateCase where
  op : RotateKind
  w : Width
  a : Nat
  count : Nat
  cf : Bool
deriving DecidableEq, Repr

/-- The arguments of the function SHIFT_OF_MULTI (43 R366): the shift, its width, its operand and the count. -/
structure ShiftCase where
  op : ShiftKind
  w : Width
  a : Nat
  count : Nat
deriving DecidableEq, Repr

/-- ROT_OF_MULTI and SHIFT_OF_MULTI (43 R350, R366), functions of the arguments `κ` that give the overflow flag after a
count above 1. `formula` is the default of D15 and D17; `table` any other function, as the list of the arguments at
which it is not the formula; `free` takes a free value (93 U8, U10). Log 7. -/
inductive OfMulti (κ : Type) where
  | formula
  | table (entries : List (κ × Bool))
  | free
deriving DecidableEq, Repr

/-- SHIFT_OF1_RULE (43 R365): the overflow flag after SHR and SAR by 1. -/
inductive ShiftOf1 where
  | doc
  | hw
deriving DecidableEq, Repr

/-- PENDING_POLICY (60 R630). -/
inductive PendingPolicy where
  | overwrite
  | keepFirst
  | forbidden
deriving DecidableEq, Repr

/-- ESC_BEHAVIOUR (49 R595, R596). -/
inductive EscBehaviour where
  | nop
  | invalid
deriving DecidableEq, Repr

/-- A set of encodings: those whose pair (opcode, ModRM), opcode in the high byte, has under `mask` the bits of
`value`; with a mask whose low byte is 0 the opcode alone decides, before any ModRM byte is fetched. Log 9. -/
structure EncodingPattern where
  mask : Word
  value : Word
deriving DecidableEq, Repr

/-- INVALID_OPCODES (30 R220), a set of encodings, by its difference from the default set, the encodings without a row
in the opcode table: the encodings it holds besides, and those of the default set that it does not hold. Log 9. -/
structure InvalidSet where
  added : List EncodingPattern
  removed : List EncodingPattern
deriving DecidableEq, Repr

/-- The parameters of R11 that are numbers, choices or tables. They stand in State, so that a statement
about every state is a statement about every setting (log 6). The hooks and the two buses are State's
`hooks`, `bus` and `ports`, RESET its `launch`; `U` is `freeFlag`. -/
structure Params where
  ivtSel : Word
  flagsFixedOnes : Word
  rotEff0 : RotEff0
  rotOfMulti : OfMulti RotateCase
  countMask : Byte
  shiftOfMulti : OfMulti ShiftCase
  shiftOf1 : ShiftOf1
  vecDivide : Byte
  vecBreakpoint : Byte
  vecOverflow : Byte
  vecBound : Byte
  vecInvalidOpcode : Byte
  vecSegNotPresent : Byte
  vecGp : Byte
  vecNonExec : Byte
  rewindDivide : Bool
  rewindBound : Bool
  rewindInvalidOpcode : Bool
  rewindSegNotPresent : Bool
  rewindGp : Bool
  rewindNonExec : Bool
  dispatchClearsTf : Bool
  pendingPolicy : PendingPolicy
  haltWakeOnIrq : Bool
  invalidOpcodes : InvalidSet
  esc : EscBehaviour
  pushSpNew : Bool
deriving DecidableEq, Repr

/-- Parameter U (R17): the k-th draw. No body: a claim holds for every value (log 4). -/
opaque Config.freeFlag : Nat → Bool

/-- What the host's port bus answers to the k-th port byte read, for the port read, where State scripts
no answer (20_memory R136, 93 U23). No body (log 5). -/
opaque Config.freePort : Nat → Word → Byte

end Sys2Proof
end

