-- ==== Sys2Proof/Machine/Defaults.lean ====
section
/-! DEFINITION. The default of every parameter of spec 00_scope R11. -/

namespace Sys2Proof.Machine

/-- The defaults of R11 (decisions D8, D14 to D18, D21, D22, D24, D26, D28, D36, D37, D41). -/
def defaultParams : Params where
  ivtSel := 0x0000
  flagsFixedOnes := 0x0002
  rotEff0 := .noop
  rotOfMulti := .formula
  countMask := 0xFF
  shiftOfMulti := .formula
  shiftOf1 := .doc
  vecDivide := 0
  vecBreakpoint := 3
  vecOverflow := 4
  vecBound := 5
  vecInvalidOpcode := 6
  vecSegNotPresent := 11
  vecGp := 13
  vecNonExec := 13
  rewindDivide := true
  rewindBound := true
  rewindInvalidOpcode := true
  rewindSegNotPresent := true
  rewindGp := true
  rewindNonExec := true
  dispatchClearsTf := false
  pendingPolicy := .overwrite
  haltWakeOnIrq := false
  invalidOpcodes := ⟨[], []⟩
  esc := .nop
  pushSpNew := true

end Sys2Proof.Machine
end

