-- ==== Sys2Proof/Machine/State.lean ====
section
/-! DEFINITION. The machine's state as plain data: everything spec 10_state gives the block, the host's
parameters, buses and hooks as data, and the model's two counters of free values. -/

namespace Sys2Proof.Machine

/-- The eight general registers (10_state R50). The byte registers are views of the first four (R52). -/
structure Regs where
  ax : Word
  cx : Word
  dx : Word
  bx : Word
  sp : Word
  bp : Word
  si : Word
  di : Word
deriving DecidableEq, Repr

/-- The four segment registers (10_state R60). -/
structure SRegs where
  es : Word
  cs : Word
  ss : Word
  ds : Word
deriving DecidableEq, Repr

/-- Where the Deferred Flag Record says a status flag's value comes from (10_state R90, R91). -/
inductive FlagSrc where
  | derived
  | explicit
deriving DecidableEq, Repr

/-- The record's source of each status flag (10_state R90). -/
structure FlagSrcs where
  cf : FlagSrc
  pf : FlagSrc
  af : FlagSrc
  zf : FlagSrc
  sf : FlagSrc
  of_ : FlagSrc
deriving DecidableEq, Repr

/-- The Deferred Flag Record but for its bits (10_state R90): the two operands read unsigned, the raw result over
the integers, the width and the sources. The bits are the nine booleans of `FlagEngine`, kept for derived flags
too (R92, D38; log 12). -/
structure FlagRecord where
  a : Nat
  b : Nat
  raw : Int
  w : Width
  src : FlagSrcs
deriving DecidableEq, Repr

/-- The Flag Engine's state: the nine flags (10_state R72), the record (R90), and `draws`, the model's own
counter of the free booleans taken from parameter U (00_scope R17; log 4). -/
structure FlagEngine where
  cf : Bool
  pf : Bool
  af : Bool
  zf : Bool
  sf : Bool
  tf : Bool
  if_ : Bool
  df : Bool
  of_ : Bool
  record : FlagRecord
  draws : Nat
deriving DecidableEq, Repr

/-- The Decoded-Operand Cache (10_state R96). -/
structure OperandCache where
  valid : Bool
  mod : BitVec 2
  reg : BitVec 3
  rm : BitVec 3
  isMem : Bool
  seg : Word
  off : Word
deriving DecidableEq, Repr

/-- The repeat prefix of the slot (10_state R100). -/
inductive RepPrefix where
  | none
  | rep
  | repNe
deriving DecidableEq, Repr

/-- How the host's bus maps (selector, offset) to a byte of memory (20_memory R131; log 1): the reference bus of
R131, or one separate 64 KiB for each selector. -/
inductive BusMap where
  | reference
  | perSelector
deriving DecidableEq, Repr

/-- The two faults a bus transaction may end in (20_memory R121). -/
inductive BusFault where
  | segmentNotPresent
  | generalProtection
deriving DecidableEq, Repr

/-- Offsets `lo` to `hi` of one selector that the host's bus refuses, for reads, writes or both (20_memory R121;
log 1). -/
structure BusWindow where
  seg : Word
  lo : Word
  hi : Word
  onRead : Bool
  onWrite : Bool
  fault : BusFault
deriving DecidableEq, Repr

/-- The active memory bus (10_state R103): its mapping, the selectors that are not executable (R65), the
transactions it refuses (20_memory R121). -/
structure Bus where
  map : BusMap
  nonExec : List Word
  refusals : List BusWindow
deriving DecidableEq, Repr

/-- The bytes behind the bus, by bus address, in the canonical form `Memory.wf`. -/
structure Memory where
  cells : List Host.Cell
deriving DecidableEq, Repr

/-- The port bus (20_memory R136): the answers the host has scripted, oldest first, the bytes written, oldest
first, and the model's own count of port byte reads (log 5). -/
structure Ports where
  inputs : List (Word × Byte)
  outputs : List (Word × Byte)
  reads : Nat
deriving DecidableEq, Repr

/-- One write of block or memory state by the host or a hook (60 R626, R662; 70 R685; log 8); `abort` is the abort
request a hook callback may make (60 R663). -/
inductive HostWrite where
  | reg (r : Reg16) (v : Word)
  | sreg (r : SReg) (v : Word)
  | ip (v : Word)
  | flags (image : Word)
  | mem (seg off : Word) (v : Byte)
  | abort
deriving DecidableEq, Repr

/-- What a hook answers, and what it writes before it returns (60 R626, R627; log 8). -/
structure HookAnswer where
  yes : Bool
  writes : List HostWrite
deriving DecidableEq, Repr

/-- DEBUG_HOOK (60 R626, R662): the answers of its two callbacks, next first; an answer that is not listed is yes
without writes (log 8). -/
structure DebugHook where
  continues : List HookAnswer
  softInts : List HookAnswer
deriving DecidableEq, Repr

/-- A load of DS, ES or SS that SEG_LOAD_CHECK refuses (10_state R67; log 8). -/
structure SegRefusal where
  reg : SReg
  sel : Word
  fault : BusFault
deriving DecidableEq, Repr

/-- The host's optional hooks (00_scope R11). `hostInt`: the answers of HOST_INT_HOOK, next first; an answer that
is not listed claims nothing (60 R627; log 8). -/
structure Hooks where
  debug : Option DebugHook
  hostInt : Option (List HookAnswer)
  segLoad : Option (List SegRefusal)
deriving DecidableEq, Repr

/-- The fault kinds (60 R610); the non-executable one carries the refused selector (R612). Raised by the
instructions of R611 and dispatched to the guest: a next state, no stop of the model. -/
inductive CpuFault where
  | divideError
  | boundRange
  | invalidOpcode
  | segmentNotPresent
  | generalProtection
  | nonExecutableSegment (sel : Word)
deriving DecidableEq, Repr

/-- The kind of an interrupt (60 R620). -/
inductive IntKind where
  | software
  | fault
  | hardware
deriving DecidableEq, Repr

/-- Why an interrupt was fatal (60 R622, R623). -/
inductive FatalWhy where
  | noHandler
  | dispatchFault (f : CpuFault)
deriving DecidableEq, Repr

/-- The sticky fatal reason (10_state R102) with what is handed to the host (60 R612, R653; log 21). -/
structure FatalReason where
  why : FatalWhy
  vector : Byte
  kind : IntKind
  cause : Option CpuFault
  cs : Word
  ipStart : Word
deriving DecidableEq, Repr

/-- Parameter RESET (00_scope R11; 10_state R110; 93 U31): the value `Reset()` gives each piece of the block's own
state. The count of draws of `fe` is not used. -/
structure Launch where
  regs : Regs
  sregs : SRegs
  ip : Word
  ipStart : Word
  fe : FlagEngine
  doc : OperandCache
  segOverride : Option SReg
  rep : RepPrefix
  lock : Bool
  pending : Option Byte
  halted : Bool
  budget : Nat
  abortRequested : Bool
  fatal : Option FatalReason
deriving DecidableEq, Repr

/-- The whole machine. Function-free, so that two states can be compared. `callbackAborts` is the host's script of the
abort requests its bus, port and hook callbacks make: one entry for each coming slot, none where it has run out (60
R663, 70 R695; log 30). -/
structure State where
  regs : Regs
  sregs : SRegs
  ip : Word
  ipStart : Word
  fe : FlagEngine
  doc : OperandCache
  segOverride : Option SReg
  rep : RepPrefix
  lock : Bool
  pending : Option Byte
  halted : Bool
  budget : Nat
  abortRequested : Bool
  fatal : Option FatalReason
  params : Params
  launch : Launch
  hooks : Hooks
  callbackAborts : List Bool
  bus : Bus
  mem : Memory
  ports : Ports
deriving DecidableEq, Repr

/-- Why a step has no next state. -/
inductive Fault where
  /-- Raised by `step` when an earlier step ended fatally: no step is defined until the host resets or repairs the
  state (10_state R102, 60 R653, 93 U15). Safe: the spec defines nothing there. -/
  | fatalStop (r : FatalReason)
  /-- Raised by `step` when 65536 prefix bytes in a row reach no opcode: the slot never completes (70 R701, 93
  U14). Safe: the hardware makes no progress there either. -/
  | prefixRunaway
deriving DecidableEq, Repr

/-- Why an instruction has no meaning here. -/
inductive Refusal where
  /-- Raised by `exec` in the arm of an instruction that is not modelled yet; no arm uses it. Safe. -/
  | notModelled (mnemonic : String)
  /-- Raised by a slot at 63 to 67, D6, F1, FE 2 to 7 or FF 7 where the host has taken the encoding out of
  INVALID_OPCODES (00_scope R11, 30 R199, R220): the spec gives it no effect. With the default set none is taken out.
  Safe (log 9). -/
  | encodingWithoutMeaning
deriving DecidableEq, Repr

/-- Every status flag explicit (10_state R110). -/
def FlagSrcs.allExplicit : FlagSrcs :=
  ⟨.explicit, .explicit, .explicit, .explicit, .explicit, .explicit⟩

/-- Every status flag derived from the result (10_state R93). -/
def FlagSrcs.allDerived : FlagSrcs :=
  ⟨.derived, .derived, .derived, .derived, .derived, .derived⟩

/-- The default of RESET (10_state R110, 70 R680): every register, flag and latch zero, false or empty. -/
def defaultLaunch : Launch where
  regs := ⟨0, 0, 0, 0, 0, 0, 0, 0⟩
  sregs := ⟨0, 0, 0, 0⟩
  ip := 0
  ipStart := 0
  fe :=
    { cf := false, pf := false, af := false, zf := false, sf := false, tf := false, if_ := false, df := false,
      of_ := false, record := ⟨0, 0, 0, .w8, .allExplicit⟩, draws := 0 }
  doc := ⟨false, 0, 0, 0, false, 0, 0⟩
  segOverride := none
  rep := .none
  lock := false
  pending := none
  halted := false
  budget := 0
  abortRequested := false
  fatal := none

/-- The state right after reset (10_state R110, 70 R680): the block's own state as the default of RESET has it. The
buses, the hooks and the parameters are the host's and are not changed by reset; they stand here at the defaults of
R11 (log 1, log 2, log 5, log 6). -/
def State.reset : State where
  regs := defaultLaunch.regs
  sregs := defaultLaunch.sregs
  ip := defaultLaunch.ip
  ipStart := defaultLaunch.ipStart
  fe := defaultLaunch.fe
  doc := defaultLaunch.doc
  segOverride := defaultLaunch.segOverride
  rep := defaultLaunch.rep
  lock := defaultLaunch.lock
  pending := defaultLaunch.pending
  halted := defaultLaunch.halted
  budget := defaultLaunch.budget
  abortRequested := defaultLaunch.abortRequested
  fatal := defaultLaunch.fatal
  params := defaultParams
  launch := defaultLaunch
  hooks := ⟨none, none, none⟩
  callbackAborts := []
  bus := ⟨.reference, [], []⟩
  mem := ⟨[]⟩
  ports := ⟨[], [], 0⟩

end Sys2Proof.Machine
end

