-- ==== Sys2Proof/Machine/Flags.lean ====
section
/-! DEFINITION. The Flag Engine: the arithmetic, logic, multiply, divide, rotate, shift and decimal primitives with
their flag computations (spec 40 to 44), the flag images (10_state R75 to R77), the conditions (48 R517), and what
the Deferred Flag Record yields (10_state R92). A primitive takes operands and the old flag state and returns the
result and the new flag state (00_scope R18). Flags are computed eagerly (R92, D38). -/

namespace Sys2Proof.Machine

/-! ### Flags from a result -/

/-- The 256-entry parity table (40 R253), entry i in bit i: true when i has an even number of 1 bits. -/
def parityTable : BitVec 256 := 0x9669699669969669699696699669699669969669966969969669699669969669#256

/-- PARITY of a byte, by lookup (R253). -/
def parity (b : Byte) : Bool := parityTable.getLsbD b.toNat

/-- The width tag of the record for an operation of `w` bits (10_state R90). -/
def widthTag (w : Nat) : Width := if w = 8 then .w8 else .w16

/-- ZF, SF and PF from the result (10_state R73, 40 R253, R258); PF from the low byte at both widths. -/
def FlagEngine.setZsp {w : Nat} (fe : FlagEngine) (r : BitVec w) : FlagEngine :=
  { fe with zf := r == 0, sf := r.msb, pf := parity (r.setWidth 8) }

/-- The k-th coming draw of parameter U (00_scope R17). -/
def FlagEngine.drawn (fe : FlagEngine) (k : Nat) : Bool := Config.freeFlag (fe.draws + k)

/-- Every status flag explicit, its value kept (10_state R95). What operands, raw result and width the record then holds
the spec leaves open; here they stay those of the last operation. DESIGN CHOICE (log 12). -/
def FlagEngine.allExplicit (fe : FlagEngine) : FlagEngine :=
  { fe with record := { fe.record with src := .allExplicit } }

/-- Every status flag explicit, its value kept, with the operands and the raw result of an operation of `w` bits stored
(10_state R90, R95; log 12 for what each operation stores). -/
def FlagEngine.stored (fe : FlagEngine) (w a b : Nat) (raw : Int) : FlagEngine :=
  { fe with record := ⟨a, b, raw, widthTag w, .allExplicit⟩ }

/-! ### Additive arithmetic (40) -/

/-- OF of an addition (R257). -/
def addOverflow {w : Nat} (a b r : BitVec w) : Bool := ((r ^^^ a) &&& (r ^^^ b)).msb

/-- OF of a subtraction (R257). -/
def subOverflow {w : Nat} (a b r : BitVec w) : Bool := ((r ^^^ a) &&& (a ^^^ b)).msb

/-- AF of an addition or subtraction (R256). -/
def auxCarry {w : Nat} (a b r : BitVec w) : Bool := (a ^^^ b ^^^ r).getLsbD 4

/-- `Add_w` and `Adc_w` (R254, R260, R261): a + b + cin. -/
def addWith {w : Nat} (a b : BitVec w) (cin : Bool) (fe : FlagEngine) : BitVec w × FlagEngine :=
  let raw := a.toNat + b.toNat + cin.toNat
  let r := BitVec.ofNat w raw
  (r,
    { fe.setZsp r with
      cf := decide (2 ^ w ≤ raw)
      af := auxCarry a b r
      of_ := addOverflow a b r
      record := ⟨a.toNat, b.toNat, raw, widthTag w, .allDerived⟩ })

/-- `Sub_w` and `Sbb_w` (R255, R262, R263): a - b - cin. -/
def subWith {w : Nat} (a b : BitVec w) (cin : Bool) (fe : FlagEngine) : BitVec w × FlagEngine :=
  let raw : Int := (a.toNat : Int) - b.toNat - cin.toNat
  let r := BitVec.ofInt w raw
  (r,
    { fe.setZsp r with
      cf := decide (raw < 0)
      af := auxCarry a b r
      of_ := subOverflow a b r
      record := ⟨a.toNat, b.toNat, raw, widthTag w, .allDerived⟩ })

/-- CF kept as explicit, as INC and DEC do (R270, R271, 10_state R93). -/
def FlagEngine.keepCarry (old fe : FlagEngine) : FlagEngine :=
  { fe with cf := old.cf, record := { fe.record with src := { fe.record.src with cf := .explicit } } }

/-- `Inc_w` (R270). -/
def inc {w : Nat} (a : BitVec w) (fe : FlagEngine) : BitVec w × FlagEngine :=
  let (r, fe') := addWith a 1 false fe
  (r, fe.keepCarry fe')

/-- `Dec_w` (R271). -/
def dec {w : Nat} (a : BitVec w) (fe : FlagEngine) : BitVec w × FlagEngine :=
  let (r, fe') := subWith a 1 false fe
  (r, fe.keepCarry fe')

/-- `Neg_w` (R265): `Sub_w(0, a)`. -/
def neg {w : Nat} (a : BitVec w) (fe : FlagEngine) : BitVec w × FlagEngine := subWith 0 a false fe

/-! ### Logic (41) -/

/-- The flags of AND, OR, XOR and TEST (R290 to R293): CF and OF explicit false, ZF SF PF from the result, AF a
draw. -/
def logicFlags {w : Nat} (a b r : BitVec w) (fe : FlagEngine) : FlagEngine :=
  { fe.setZsp r with
    cf := false
    of_ := false
    af := fe.drawn 0
    draws := fe.draws + 1
    record :=
      ⟨a.toNat, b.toNat, r.toNat, widthTag w, { FlagSrcs.allDerived with cf := .explicit, of_ := .explicit, af := .explicit }⟩ }

/-- The eight two-operand operations of the ALU code (30_encoding R199). -/
inductive AluOp where
  | add
  | or
  | adc
  | sbb
  | and
  | sub
  | xor
  | cmp
deriving DecidableEq, Repr

/-- Whether the operation writes its result to the destination: all but CMP (R264, R266). -/
def AluOp.writes : AluOp → Bool
  | .add => true
  | .or => true
  | .adc => true
  | .sbb => true
  | .and => true
  | .sub => true
  | .xor => true
  | .cmp => false

/-- `Op_w(a, b)` of the ALU code (R260 to R264, R290 to R292). -/
def AluOp.apply {w : Nat} (op : AluOp) (a b : BitVec w) (fe : FlagEngine) : BitVec w × FlagEngine :=
  match op with
  | .add => addWith a b false fe
  | .or => (a ||| b, logicFlags a b (a ||| b) fe)
  | .adc => addWith a b fe.cf fe
  | .sbb => subWith a b fe.cf fe
  | .and => (a &&& b, logicFlags a b (a &&& b) fe)
  | .sub => subWith a b false fe
  | .xor => (a ^^^ b, logicFlags a b (a ^^^ b) fe)
  | .cmp => subWith a b false fe

/-- `Test_w` (R293): the flags of AND. -/
def testFlags {w : Nat} (a b : BitVec w) (fe : FlagEngine) : FlagEngine := logicFlags a b (a &&& b) fe

/-- `Cmp_w` (R264): the flags of SUB. -/
def cmpFlags {w : Nat} (a b : BitVec w) (fe : FlagEngine) : FlagEngine := (subWith a b false fe).2

/-! ### Multiplication and division (42) -/

/-- The flags of MUL and IMUL (R311, R312): CF and OF explicit and equal, ZF SF PF from the low half, AF a draw. -/
def mulFlags {w : Nat} (a b lo : BitVec w) (raw : Int) (wide : Bool) (fe : FlagEngine) : FlagEngine :=
  { fe.setZsp lo with
    cf := wide
    of_ := wide
    af := fe.drawn 0
    draws := fe.draws + 1
    record :=
      ⟨a.toNat, b.toNat, raw, widthTag w, { FlagSrcs.allDerived with cf := .explicit, of_ := .explicit, af := .explicit }⟩ }

/-- `Mul_w` (R311): the low half, the high half and the flags. -/
def mul {w : Nat} (a b : BitVec w) (fe : FlagEngine) : BitVec w × BitVec w × FlagEngine :=
  let p := a.toNat * b.toNat
  let lo := BitVec.ofNat w p
  let hi := BitVec.ofNat w (p / 2 ^ w)
  (lo, hi, mulFlags a b lo p (hi != 0) fe)

/-- `IMul_w` (R312): the low half, the high half and the flags. -/
def imul {w : Nat} (a b : BitVec w) (fe : FlagEngine) : BitVec w × BitVec w × FlagEngine :=
  let p := a.toInt * b.toInt
  let lo := BitVec.ofInt w p
  let hi := BitVec.ofInt w (p / 2 ^ w)
  (lo, hi, mulFlags a b lo p (decide (p ≠ lo.toInt)) fe)

/-- `Div_w` (R320, R322): quotient and remainder, or none where DivideError is raised. -/
def udivide (w n d : Nat) : Option (BitVec w × BitVec w) :=
  if d = 0 then none
  else if 2 ^ w ≤ n / d then none
  else some (BitVec.ofNat w (n / d), BitVec.ofNat w (n % d))

/-- `IDiv_w` (R321, R322, R323): quotient truncated toward zero and remainder, or none where DivideError is
raised. -/
def sdivide (w : Nat) (n d : Int) : Option (BitVec w × BitVec w) :=
  if d = 0 then none
  else if n.tdiv d < -(2 ^ (w - 1)) ∨ 2 ^ (w - 1) - 1 < n.tdiv d then none
  else some (BitVec.ofInt w (n.tdiv d), BitVec.ofInt w (n.tmod d))

/-- The flags after a completed division of `n` by `d` with quotient `q`: six draws (R324). -/
def divFlags {w : Nat} (n : Nat) (d q : BitVec w) (fe : FlagEngine) : FlagEngine :=
  { fe.stored w n d.toNat q.toNat with
    cf := fe.drawn 0
    pf := fe.drawn 1
    af := fe.drawn 2
    zf := fe.drawn 3
    sf := fe.drawn 4
    of_ := fe.drawn 5
    draws := fe.draws + 6 }

/-! ### Rotates and shifts (43) -/

/-- The value of ROT_OF_MULTI or SHIFT_OF_MULTI at one case, where it is not free: the entry of its table, or the
formula (R350, R366; log 7). -/
def multiOverflow {κ : Type} [DecidableEq κ] (m : OfMulti κ) (k : κ) (formula : Bool) : Bool :=
  match m with
  | .formula => formula
  | .table l => ((l.find? fun e => e.1 = k).map fun e => e.2).getD formula
  | .free => formula

/-- Whether a rotate is to the left. -/
def rotatesLeft : RotateKind → Bool
  | .rol => true
  | .ror => false
  | .rcl => true
  | .rcr => false

/-- OF after a rotate with result `r` and carry `cf` by the formula of R349. -/
def rotateOverflow {w : Nat} (k : RotateKind) (r : BitVec w) (cf : Bool) : Bool :=
  if rotatesLeft k then cf ^^ r.msb else r.msb ^^ r.getLsbD (w - 2)

/-- CF and OF after a rotate of `a` by the raw count `n` and the effective count `eff` (R349 to R351): OF by the count-1
formula, or by ROT_OF_MULTI when the effective count is not 1; the other flags kept, explicit. -/
def rotateFlags {w : Nat} (p : Params) (k : RotateKind) (a : BitVec w) (n eff : Nat) (r : BitVec w) (cf : Bool)
    (fe : FlagEngine) : FlagEngine :=
  let fe' := { fe.stored w a.toNat n r.toNat with cf := cf }
  if eff = 1 then { fe' with of_ := rotateOverflow k r cf }
  else if p.rotOfMulti = .free then { fe' with of_ := fe.drawn 0, draws := fe.draws + 1 }
  else { fe' with of_ := multiOverflow p.rotOfMulti ⟨k, widthTag w, a.toNat, eff, fe.cf⟩ (rotateOverflow k r cf) }

/-- `Rol_w` (R341, R342, R344). -/
def rol {w : Nat} (p : Params) (a : BitVec w) (n : Nat) (fe : FlagEngine) : BitVec w × FlagEngine :=
  let e := n % w
  if e = 0 then
    if n ≠ 0 ∧ p.rotEff0 = .setcf then (a, rotateFlags p .rol a n e a (a.getLsbD 0) fe) else (a, fe)
  else
    let r := a.rotateLeft e
    (r, rotateFlags p .rol a n e r (r.getLsbD 0) fe)

/-- `Ror_w` (R341, R342, R345). -/
def ror {w : Nat} (p : Params) (a : BitVec w) (n : Nat) (fe : FlagEngine) : BitVec w × FlagEngine :=
  let e := n % w
  if e = 0 then
    if n ≠ 0 ∧ p.rotEff0 = .setcf then (a, rotateFlags p .ror a n e a a.msb fe) else (a, fe)
  else
    let r := a.rotateRight e
    (r, rotateFlags p .ror a n e r r.msb fe)

/-- `Rcl_w` (R341, R342, R346): a rotate of the w+1 bits CF ++ a. -/
def rcl {w : Nat} (p : Params) (a : BitVec w) (n : Nat) (fe : FlagEngine) : BitVec w × FlagEngine :=
  let e := n % (w + 1)
  if e = 0 then (a, fe)
  else
    let x := (BitVec.cons fe.cf a).rotateLeft e
    let r := x.setWidth w
    (r, rotateFlags p .rcl a n e r x.msb fe)

/-- `Rcr_w` (R341, R342, R347): a rotate of the w+1 bits CF ++ a. -/
def rcr {w : Nat} (p : Params) (a : BitVec w) (n : Nat) (fe : FlagEngine) : BitVec w × FlagEngine :=
  let e := n % (w + 1)
  if e = 0 then (a, fe)
  else
    let x := (BitVec.cons fe.cf a).rotateRight e
    let r := x.setWidth w
    (r, rotateFlags p .rcr a n e r x.msb fe)

/-- OF after a shift by exactly 1 of `a` to `r` with carry `cf` (R365). -/
def shiftOverflow1 {w : Nat} (p : Params) (k : ShiftKind) (a r : BitVec w) (cf : Bool) : Bool :=
  match p.shiftOf1, k with
  | .doc, _ => cf ^^ r.msb
  | .hw, .shl => cf ^^ r.msb
  | .hw, .shr => a.msb
  | .hw, .sar => false

/-- The flags after a shift of count n ≥ 1 with raw result `raw` (R361 to R366): CF the last bit out, ZF SF PF from the
result, AF a draw, OF by R365 or R366. -/
def shiftFlags {w : Nat} (p : Params) (k : ShiftKind) (n : Nat) (a r : BitVec w) (raw : Nat) (cf : Bool)
    (fe : FlagEngine) : FlagEngine :=
  let fe' := { (fe.stored w a.toNat n raw).setZsp r with cf := cf, af := fe.drawn 0, draws := fe.draws + 1 }
  if n = 1 then { fe' with of_ := shiftOverflow1 p k a r cf }
  else if p.shiftOfMulti = .free then { fe' with of_ := fe.drawn 1, draws := fe.draws + 2 }
  else { fe' with of_ := multiOverflow p.shiftOfMulti ⟨k, widthTag w, a.toNat, n⟩ (cf ^^ r.msb) }

/-- `Shl_w` (R360, R361). -/
def shl {w : Nat} (p : Params) (a : BitVec w) (n : Nat) (fe : FlagEngine) : BitVec w × FlagEngine :=
  if n = 0 then (a, fe)
  else
    let r := a <<< n
    (r, shiftFlags p .shl n a r (a.toNat * 2 ^ n) (decide (n ≤ w) && a.getLsbD (w - n)) fe)

/-- `Shr_w` (R360, R362). -/
def shr {w : Nat} (p : Params) (a : BitVec w) (n : Nat) (fe : FlagEngine) : BitVec w × FlagEngine :=
  if n = 0 then (a, fe)
  else
    let r := a >>> n
    (r, shiftFlags p .shr n a r r.toNat (a.getLsbD (n - 1)) fe)

/-- `Sar_w` (R360, R363). -/
def sar {w : Nat} (p : Params) (a : BitVec w) (n : Nat) (fe : FlagEngine) : BitVec w × FlagEngine :=
  if n = 0 then (a, fe)
  else
    let r := a.sshiftRight n
    (r, shiftFlags p .sar n a r r.toNat (if n < w then a.getLsbD (n - 1) else a.msb) fe)

/-- The seven operations of the shift group (30_encoding R199). -/
inductive ShiftOp where
  | rol
  | ror
  | rcl
  | rcr
  | shl
  | shr
  | sar
deriving DecidableEq, Repr

/-- `Op_w(a, n)` of the shift group, n after COUNT_MASK (R340, R370). -/
def ShiftOp.apply {w : Nat} (op : ShiftOp) (p : Params) (a : BitVec w) (n : Nat) (fe : FlagEngine) :
    BitVec w × FlagEngine :=
  match op with
  | .rol => Machine.rol p a n fe
  | .ror => Machine.ror p a n fe
  | .rcl => Machine.rcl p a n fe
  | .rcr => Machine.rcr p a n fe
  | .shl => Machine.shl p a n fe
  | .shr => Machine.shr p a n fe
  | .sar => Machine.sar p a n fe

/-! ### Decimal adjust (44) -/

/-- Whether the low digit is adjusted (R380 to R383). -/
def lowDigitOff (al : Byte) (af : Bool) : Bool := decide (9 < (al &&& 0x0F).toNat) || af

/-- CF and AF set to `c`; OF, SF, ZF, PF draws: AAA and AAS (R387); `al` corrected by `b` to `raw`. -/
def asciiFlags (c : Bool) (al : Byte) (b : Nat) (raw : Int) (fe : FlagEngine) : FlagEngine :=
  { fe.stored 8 al.toNat b raw with
    cf := c
    af := c
    of_ := fe.drawn 0
    sf := fe.drawn 1
    zf := fe.drawn 2
    pf := fe.drawn 3
    draws := fe.draws + 4 }

/-- `AAA` (R380): AL, AH and the flags. -/
def aaa (al ah : Byte) (fe : FlagEngine) : Byte × Byte × FlagEngine :=
  if lowDigitOff al fe.af then ((al + 6) &&& 0x0F, ah + 1, asciiFlags true al 6 (al.toNat + 6) fe)
  else (al &&& 0x0F, ah, asciiFlags false al 0 al.toNat fe)

/-- `AAS` (R381): AL, AH and the flags. -/
def aas (al ah : Byte) (fe : FlagEngine) : Byte × Byte × FlagEngine :=
  if lowDigitOff al fe.af then ((al - 6) &&& 0x0F, ah - 1, asciiFlags true al 6 (al.toNat - 6) fe)
  else (al &&& 0x0F, ah, asciiFlags false al 0 al.toNat fe)

/-- The flags of DAA and DAS (R382, R383, R387): CF and AF given, ZF SF PF from the new AL `r`, OF a draw; the old AL
`a` was corrected by `b` to `raw`. -/
def decimalFlags (r : Byte) (cf af : Bool) (a : Byte) (b : Nat) (raw : Int) (fe : FlagEngine) : FlagEngine :=
  { (fe.stored 8 a.toNat b raw).setZsp r with cf := cf, af := af, of_ := fe.drawn 0, draws := fe.draws + 1 }

/-- What DAA adds to AL and DAS subtracts from it (R382, R383). -/
def decimalCorrection (low high : Bool) : Nat := (if low then 6 else 0) + (if high then 0x60 else 0)

/-- Whether the high digit is adjusted, by the AL and CF of entry (R382, R383). -/
def highDigitOff (al : Byte) (cf : Bool) : Bool := decide (0x99 < al.toNat) || cf

/-- `DAA` (R382): AL and the flags. -/
def daa (al : Byte) (fe : FlagEngine) : Byte × FlagEngine :=
  let low := lowDigitOff al fe.af
  let high := highDigitOff al fe.cf
  let al1 := if low then al + 6 else al
  let al2 := if high then al1 + 0x60 else al1
  (al2, decimalFlags al2 high low al (decimalCorrection low high) (al.toNat + decimalCorrection low high) fe)

/-- `DAS` (R383): AL and the flags; a borrow of the first step survives a second step not taken. -/
def das (al : Byte) (fe : FlagEngine) : Byte × FlagEngine :=
  let low := lowDigitOff al fe.af
  let high := highDigitOff al fe.cf
  let al1 := if low then al - 6 else al
  let al2 := if high then al1 - 0x60 else al1
  let borrow := low && (fe.cf || decide (al.toNat < 6))
  (al2,
    decimalFlags al2 (high || borrow) low al (decimalCorrection low high) (al.toNat - decimalCorrection low high) fe)

/-- The flags of AAM and AAD (R384, R385, R387): ZF SF PF from the new AL `r`, CF OF AF draws; `a` and `b` are the
operands, `raw` the result before truncation. -/
def baseFlags (r : Byte) (a b raw : Nat) (fe : FlagEngine) : FlagEngine :=
  { (fe.stored 8 a b raw).setZsp r with
    cf := fe.drawn 0
    of_ := fe.drawn 1
    af := fe.drawn 2
    draws := fe.draws + 3 }

/-- `AAM` (R384): AL, AH and the flags, or none where DivideError is raised. -/
def aam (al b : Byte) (fe : FlagEngine) : Option (Byte × Byte × FlagEngine) :=
  if b = 0 then none else some (al % b, al / b, baseFlags (al % b) al.toNat b.toNat (al.toNat % b.toNat) fe)

/-- `AAD` (R385): AL and the flags; AH becomes 0. -/
def aad (al ah b : Byte) (fe : FlagEngine) : Byte × FlagEngine :=
  let r := al + ah * b
  (r, baseFlags r al.toNat (ah.toNat * b.toNat) (al.toNat + ah.toNat * b.toNat) fe)

/-! ### Single flags (45) -/

/-- A single-bit write of CF: explicit, nothing else of the record changed (10_state R94, 45 R400 to R402). -/
def FlagEngine.setCarry (fe : FlagEngine) (v : Bool) : FlagEngine :=
  { fe with cf := v, record := { fe.record with src := { fe.record.src with cf := .explicit } } }

/-! ### Flag images (10_state R75 to R77) -/

/-- One flag at its place in the image. -/
def flagBit (v : Bool) (i : Nat) : Word := if v then 1 <<< i else 0

/-- `FlagsImage16()` (R75). -/
def flagsImage16 (p : Params) (fe : FlagEngine) : Word :=
  flagBit fe.cf 0 ||| flagBit fe.pf 2 ||| flagBit fe.af 4 ||| flagBit fe.zf 6 ||| flagBit fe.sf 7 ||| flagBit fe.tf 8 |||
    flagBit fe.if_ 9 ||| flagBit fe.df 10 ||| flagBit fe.of_ 11 ||| p.flagsFixedOnes

/-- `FlagsImage8()` (R76): bits 7:0 of the 16-bit image. -/
def flagsImage8 (p : Params) (fe : FlagEngine) : Byte := (flagsImage16 p fe).extractLsb' 0 8

/-- `SetFlags16(v)` (R77, 45 R409): all nine flags, explicit; the rest of the record as `allExplicit` has it (log 12). -/
def setFlags16 (v : Word) (fe : FlagEngine) : FlagEngine :=
  { fe.allExplicit with
    cf := v.getLsbD 0
    pf := v.getLsbD 2
    af := v.getLsbD 4
    zf := v.getLsbD 6
    sf := v.getLsbD 7
    tf := v.getLsbD 8
    if_ := v.getLsbD 9
    df := v.getLsbD 10
    of_ := v.getLsbD 11 }

/-- `SetFlags8(v)` (R77, 45 R408): SF, ZF, AF, PF, CF; OF kept as explicit; the rest of the record as `allExplicit` has
it (log 12). -/
def setFlags8 (v : Byte) (fe : FlagEngine) : FlagEngine :=
  { fe.allExplicit with
    cf := v.getLsbD 0
    pf := v.getLsbD 2
    af := v.getLsbD 4
    zf := v.getLsbD 6
    sf := v.getLsbD 7 }

/-! ### Conditions (48 R517) -/

/-- The sixteen condition codes, in the order of `op[3:0]`. -/
inductive Cond where
  | o
  | no
  | b
  | ae
  | e
  | ne
  | be
  | a
  | s
  | ns
  | p
  | np
  | l
  | ge
  | le
  | g
deriving DecidableEq, Repr

/-- When a condition holds (R517). -/
def Cond.holds (c : Cond) (fe : FlagEngine) : Bool :=
  match c with
  | .o => fe.of_
  | .no => !fe.of_
  | .b => fe.cf
  | .ae => !fe.cf
  | .e => fe.zf
  | .ne => !fe.zf
  | .be => fe.cf || fe.zf
  | .a => !fe.cf && !fe.zf
  | .s => fe.sf
  | .ns => !fe.sf
  | .p => fe.pf
  | .np => !fe.pf
  | .l => fe.sf != fe.of_
  | .ge => fe.sf == fe.of_
  | .le => fe.zf || (fe.sf != fe.of_)
  | .g => !fe.zf && (fe.sf == fe.of_)

/-! ### What the record yields (10_state R92, 40 R253 to R258) -/

/-- The number of bits of a width. -/
def Width.bits : Width → Nat
  | .w8 => 8
  | .w16 => 16

/-- The stored result, truncated to the record's width and read in 16 bits. -/
def FlagRecord.result (d : FlagRecord) : Nat := (d.raw % 2 ^ Width.bits d.w).toNat

/-- CF derived: bit w of the raw result in two's complement (R254, R255). -/
def FlagRecord.cfOf (d : FlagRecord) : Bool := decide (d.raw / 2 ^ Width.bits d.w % 2 ≠ 0)

/-- ZF derived (R258). -/
def FlagRecord.zfOf (d : FlagRecord) : Bool := d.result == 0

/-- SF derived (R258). -/
def FlagRecord.sfOf (d : FlagRecord) : Bool := d.result.testBit (Width.bits d.w - 1)

/-- PF derived (R253). -/
def FlagRecord.pfOf (d : FlagRecord) : Bool := parity (BitVec.ofNat 8 d.result)

/-- AF derived (R256). -/
def FlagRecord.afOf (d : FlagRecord) : Bool := (d.a ^^^ d.b ^^^ d.result).testBit 4

/-- OF derived (R257). The record holds no operation tag (91 N14): a raw result not below the first operand is an
addition's, where the two cases meet (operand b and carry 0) both formulas give false. Log 12. -/
def FlagRecord.ofOf (d : FlagRecord) : Bool :=
  let k := Width.bits d.w - 1
  if (d.a : Int) ≤ d.raw then ((d.result ^^^ d.a) &&& (d.result ^^^ d.b)).testBit k
  else ((d.result ^^^ d.a) &&& (d.a ^^^ d.b)).testBit k

/-- The flags agree with the record: every flag marked derived has the value the record yields (R91, R92). -/
def FlagEngine.recordAgrees (fe : FlagEngine) : Prop :=
  (fe.record.src.cf = .derived → fe.cf = fe.record.cfOf) ∧
    (fe.record.src.pf = .derived → fe.pf = fe.record.pfOf) ∧
    (fe.record.src.af = .derived → fe.af = fe.record.afOf) ∧
    (fe.record.src.zf = .derived → fe.zf = fe.record.zfOf) ∧
    (fe.record.src.sf = .derived → fe.sf = fe.record.sfOf) ∧
    (fe.record.src.of_ = .derived → fe.of_ = fe.record.ofOf)

end Sys2Proof.Machine
end

