-- ==== Sys2Proof/Machine/Registers.lean ====
section
/-! DEFINITION. The register file's ports (spec 10_state R50 to R55): word registers, the byte registers as views of
their halves, segment registers, IP. A write is seen by every later read. -/

namespace Sys2Proof.Machine

/-- `ReadReg16` (10_state R51, R55). -/
def Regs.get16 (g : Regs) : Reg16 → Word
  | .ax => g.ax
  | .cx => g.cx
  | .dx => g.dx
  | .bx => g.bx
  | .sp => g.sp
  | .bp => g.bp
  | .si => g.si
  | .di => g.di

/-- `WriteReg16` (10_state R51, R55). -/
def Regs.set16 (g : Regs) (r : Reg16) (v : Word) : Regs :=
  match r with
  | .ax => { g with ax := v }
  | .cx => { g with cx := v }
  | .dx => { g with dx := v }
  | .bx => { g with bx := v }
  | .sp => { g with sp := v }
  | .bp => { g with bp := v }
  | .si => { g with si := v }
  | .di => { g with di := v }

/-- `ReadReg8` (10_state R53, R54). -/
def Regs.get8 (g : Regs) : Reg8 → Byte
  | .al => lo8 g.ax
  | .cl => lo8 g.cx
  | .dl => lo8 g.dx
  | .bl => lo8 g.bx
  | .ah => hi8 g.ax
  | .ch => hi8 g.cx
  | .dh => hi8 g.dx
  | .bh => hi8 g.bx

/-- `WriteReg8` (10_state R53, R54): the other half of the word register is kept. -/
def Regs.set8 (g : Regs) (r : Reg8) (v : Byte) : Regs :=
  match r with
  | .al => { g with ax := word16 (hi8 g.ax) v }
  | .cl => { g with cx := word16 (hi8 g.cx) v }
  | .dl => { g with dx := word16 (hi8 g.dx) v }
  | .bl => { g with bx := word16 (hi8 g.bx) v }
  | .ah => { g with ax := word16 v (lo8 g.ax) }
  | .ch => { g with cx := word16 v (lo8 g.cx) }
  | .dh => { g with dx := word16 v (lo8 g.dx) }
  | .bh => { g with bx := word16 v (lo8 g.bx) }

/-- A word register of the machine. -/
def State.reg16 (s : State) (r : Reg16) : Word := s.regs.get16 r

/-- The machine with a word register replaced. -/
def State.setReg16 (s : State) (r : Reg16) (v : Word) : State := { s with regs := s.regs.set16 r v }

/-- A byte register of the machine. -/
def State.reg8 (s : State) (r : Reg8) : Byte := s.regs.get8 r

/-- The machine with a byte register replaced. -/
def State.setReg8 (s : State) (r : Reg8) (v : Byte) : State := { s with regs := s.regs.set8 r v }

/-- A segment register read (10_state R55, R61). -/
def State.sreg (s : State) : SReg → Word
  | .es => s.sregs.es
  | .cs => s.sregs.cs
  | .ss => s.sregs.ss
  | .ds => s.sregs.ds

/-- A segment register write without any check. -/
def State.setSReg (s : State) (r : SReg) (v : Word) : State :=
  match r with
  | .es => { s with sregs := { s.sregs with es := v } }
  | .cs => { s with sregs := { s.sregs with cs := v } }
  | .ss => { s with sregs := { s.sregs with ss := v } }
  | .ds => { s with sregs := { s.sregs with ds := v } }

/-- The machine with IP replaced. -/
def State.setIP (s : State) (v : Word) : State := { s with ip := v }

/-- The machine with SP replaced. -/
def State.setSP (s : State) (v : Word) : State := s.setReg16 .sp v

/-- The machine with new flags. -/
def State.setFlags (s : State) (fe : FlagEngine) : State := { s with fe := fe }

end Sys2Proof.Machine
end

