-- ==== Sys2Proof/Machine/Ops.lean ====
section
/-! DEFINITION. The shared operations over memory and the stack, the checked write of CS, and the interrupt
subsystem: dispatch, fault handling, software interrupts, the interrupt check (spec 20_memory, 47 section 1,
60 sections 2 to 4, 10_state R64 to R67). -/

namespace Sys2Proof.Machine

/-! ### Results of an operation inside an instruction -/

/-- What an operation inside an instruction gives (00_scope R16): a value and the state after it, or a raised fault
and the state at that moment, earlier writes committed (20_memory R121). -/
inductive Res (α : Type) where
  | ok (a : α) (s : State)
  | raise (f : CpuFault) (s : State)

/-- One operation after another; a raised fault abandons what follows (R16). -/
def Res.bind {α β : Type} (r : Res α) (k : α → State → Res β) : Res β :=
  match r with
  | .ok a s => k a s
  | .raise f s => .raise f s

/-- An operation that cannot fault. -/
def Res.done (s : State) : Res Unit := .ok () s

/-! ### Memory behind the bus -/

/-- What a byte that nothing has written reads as. The spec leaves it to the host's bus (93 U23); DESIGN CHOICE
0x00, which is the convention of spec/95_test_vectors.md. Log 2. -/
def unwrittenByte : Byte := 0

/-- The byte stored at an address of a list of cells. -/
def findCell : List Host.Cell → Nat → Option Byte
  | [], _ => none
  | (b, x) :: t, a => if a = b then some x else findCell t a

/-- The cells with the byte at `a` replaced or added, addresses kept rising. -/
def putCell : List Host.Cell → Nat → Byte → List Host.Cell
  | [], a, v => [(a, v)]
  | (b, x) :: t, a, v => if a < b then (a, v) :: (b, x) :: t else if a = b then (a, v) :: t else (b, x) :: putCell t a v

/-- The cells without the one at `a`. -/
def dropCell : List Host.Cell → Nat → List Host.Cell
  | [], _ => []
  | (b, x) :: t, a => if a = b then t else (b, x) :: dropCell t a

/-- The byte at a bus address. -/
def Memory.read (m : Memory) (a : Nat) : Byte := (findCell m.cells a).getD unwrittenByte

/-- The memory after one byte is stored; storing what an unlisted address reads as removes the entry. -/
def Memory.write (m : Memory) (a : Nat) (v : Byte) : Memory :=
  if v = unwrittenByte then ⟨dropCell m.cells a⟩ else ⟨putCell m.cells a v⟩

/-- The canonical form: addresses strictly rising, no entry equal to what an unlisted address reads as. -/
abbrev Memory.wf (m : Memory) : Prop :=
  m.cells.Pairwise (fun c d => c.1 < d.1) ∧ ∀ c ∈ m.cells, c.2 ≠ unwrittenByte

/-! ### The memory bus (20_memory) -/

/-- The bus address of a selector and an offset (R131; log 1): on the reference bus `(seg*16 + off) mod 2^20`. -/
def busAddr (m : BusMap) (seg off : Word) : Nat :=
  match m with
  | .reference => (seg.toNat * 16 + off.toNat) % 2 ^ 20
  | .perSelector => seg.toNat * 2 ^ 16 + off.toNat

/-- The fault of a bus refusal (R121). -/
def BusFault.toCpu : BusFault → CpuFault
  | .segmentNotPresent => .segmentNotPresent
  | .generalProtection => .generalProtection

/-- Whether a refused window covers a transaction. -/
def BusWindow.covers (w : BusWindow) (isWrite : Bool) (seg off : Word) : Bool :=
  w.seg == seg && decide (w.lo ≤ off) && decide (off ≤ w.hi) && (if isWrite then w.onWrite else w.onRead)

/-- The fault the bus answers a transaction with, or none (R121). -/
def Bus.refusal (b : Bus) (isWrite : Bool) (seg off : Word) : Option CpuFault :=
  (b.refusals.find? fun w => w.covers isWrite seg off).map fun w => w.fault.toCpu

/-- `BUS.IsExecutable(sel)` (10_state R65). -/
def Bus.isExecutable (b : Bus) (sel : Word) : Bool := !b.nonExec.contains sel

/-- The byte at (seg, off) on the active bus, refusals left aside. -/
def State.byteAt (s : State) (seg off : Word) : Byte := s.mem.read (busAddr s.bus.map seg off)

/-- The word at (seg, off) on the active bus, refusals left aside (R123, R126). -/
def State.wordAt (s : State) (seg off : Word) : Word := word16 (s.byteAt seg (off + 1)) (s.byteAt seg off)

/-- The state with one byte stored at (seg, off) on the active bus. -/
def State.putByte (s : State) (seg off : Word) (v : Byte) : State :=
  { s with mem := s.mem.write (busAddr s.bus.map seg off) v }

/-- The state with one word stored at (seg, off) on the active bus: low byte first, the second offset wrapped (R123,
R126). -/
def State.putWord (s : State) (seg off : Word) (v : Word) : State :=
  (s.putByte seg off (lo8 v)).putByte seg (off + 1) (hi8 v)

/-- `MemRead(seg:off, 1)` (R122). -/
def memRead8 (seg off : Word) (s : State) : Res Byte :=
  match s.bus.refusal false seg off with
  | some f => .raise f s
  | none => .ok (s.byteAt seg off) s

/-- `MemWrite(seg:off, 1, v)` (R122). -/
def memWrite8 (seg off : Word) (v : Byte) (s : State) : Res Unit :=
  match s.bus.refusal true seg off with
  | some f => .raise f s
  | none => .done (s.putByte seg off v)

/-- `MemRead(seg:off, 2)` (R123, R125, R126): low byte first, the second offset modulo 2^16. -/
def memRead16 (seg off : Word) (s : State) : Res Word :=
  (memRead8 seg off s).bind fun l s =>
  (memRead8 seg (off + 1) s).bind fun h s => .ok (word16 h l) s

/-- `MemWrite(seg:off, 2, v)` (R123, R125, R126): low byte first. -/
def memWrite16 (seg off : Word) (v : Word) (s : State) : Res Unit :=
  (memWrite8 seg off (lo8 v) s).bind fun _ s => memWrite8 seg (off + 1) (hi8 v) s

/-! ### The port bus (20_memory R136) -/

/-- The host's answer to a port byte read: the oldest scripted answer for that port, which is used up, or a free
value (log 5). -/
def Ports.answer (p : Ports) (port : Word) : Byte :=
  ((p.inputs.find? fun e => e.1 == port).map fun e => e.2).getD (Config.freePort p.reads port)

/-- `PORTS.PortReadByte(p)` (R136). -/
def portRead8 (port : Word) (s : State) : Res Byte :=
  .ok (s.ports.answer port)
    { s with
      ports :=
        { s.ports with inputs := s.ports.inputs.eraseP fun e => e.1 == port, reads := s.ports.reads + 1 } }

/-- `PORTS.PortWriteByte(p, v)` (R136). -/
def portWrite8 (port : Word) (v : Byte) (s : State) : Res Unit :=
  .done { s with ports := { s.ports with outputs := s.ports.outputs ++ [(port, v)] } }

/-- `PortRead(p, 2)` (R136): port p is the low byte, then port p+1. -/
def portRead16 (port : Word) (s : State) : Res Word :=
  (portRead8 port s).bind fun l s => (portRead8 (port + 1) s).bind fun h s => .ok (word16 h l) s

/-- `PortWrite(p, 2, v)` (R136): the low byte to port p, then the high byte to port p+1. -/
def portWrite16 (port : Word) (v : Word) (s : State) : Res Unit :=
  (portWrite8 port (lo8 v) s).bind fun _ s => portWrite8 (port + 1) (hi8 v) s

/-! ### Checked writes of segment registers and CS:IP -/

/-- `CheckCS(sel)` (48 R511): the predicate is asked before anything is committed. -/
def checkCS (sel : Word) (s : State) : Res Unit :=
  if s.bus.isExecutable sel then .done s else .raise (.nonExecutableSegment sel) s

/-- `WriteCS(sel)` (10_state R64): a refused selector leaves CS as it was. -/
def writeCS (sel : Word) (s : State) : Res Unit := (checkCS sel s).bind fun _ s => .done (s.setSReg .cs sel)

/-- `CS:IP <- sel:off` (10_state R66): CS first, then IP. -/
def jumpFar (sel off : Word) (s : State) : Res Unit := (writeCS sel s).bind fun _ s => .done (s.setIP off)

/-- What SEG_LOAD_CHECK answers to a load of DS, ES or SS (10_state R67). -/
def Hooks.segLoadFault (h : Hooks) (r : SReg) (sel : Word) : Option CpuFault :=
  match h.segLoad with
  | none => none
  | some l => (l.find? fun e => e.reg == r && e.sel == sel).map fun e => e.fault.toCpu

/-- A write of a segment register by an instruction (10_state R64, R67): CS through `WriteCS`, the others through
SEG_LOAD_CHECK where the host has one. -/
def writeSReg (r : SReg) (v : Word) (s : State) : Res Unit :=
  match r with
  | .cs => writeCS v s
  | .es => loadData .es
  | .ss => loadData .ss
  | .ds => loadData .ds
where
  /-- The checked load of a data or stack segment register. -/
  loadData (r : SReg) : Res Unit :=
    match s.hooks.segLoadFault r v with
    | some f => .raise f s
    | none => .done (s.setSReg r v)

/-! ### The stack (47 section 1) -/

/-- `Push16(v)` (R480): SP is committed after the write. -/
def push16 (v : Word) (s : State) : Res Unit :=
  let a := s.regs.sp - 2
  (memWrite16 s.sregs.ss a v s).bind fun _ s => .done (s.setSP a)

/-- `Pop16()` (R481). -/
def pop16 (s : State) : Res Word :=
  (memRead16 s.sregs.ss s.regs.sp s).bind fun v s => .ok v (s.setSP (s.regs.sp + 2))

/-- The word `k` bytes above the stack pointer (48 R532, R545). -/
def stackWord (k : Word) (s : State) : Res Word := memRead16 s.sregs.ss (s.regs.sp + k) s

/-! ### The host's hooks (60 R626, R627) -/

/-- One write by the host, unchecked (70 R685); flags become explicit. -/
def HostWrite.apply (w : HostWrite) (s : State) : State :=
  match w with
  | .reg r v => s.setReg16 r v
  | .sreg r v => s.setSReg r v
  | .ip v => s.setIP v
  | .flags v => s.setFlags (setFlags16 v s.fe)
  | .mem seg off v => s.putByte seg off v
  | .abort => { s with abortRequested := true }

/-- The host's writes in order. -/
def applyWrites : List HostWrite → State → State
  | [], s => s
  | w :: t, s => applyWrites t (w.apply s)

/-- The abort request that a bus, port or hook callback of a slot may make (60 R663, 70 R695): the next entry of the
host's script is used up. Nothing inside a slot reads the request, so where in the slot it is made does not show
(log 30). -/
def State.callbackAbort (s : State) : State :=
  { s with
    abortRequested := s.abortRequested || s.callbackAborts.headD false
    callbackAborts := s.callbackAborts.tail }

/-- HOST_INT_HOOK at the head of a dispatch (R627): whether the host claims the interrupt, and the state after its
answer is used and its writes are done (log 8). -/
def hostClaims (s : State) : Bool × State :=
  match s.hooks.hostInt with
  | some (a :: t) => (a.yes, applyWrites a.writes { s with hooks := { s.hooks with hostInt := some t } })
  | some [] => (false, s)
  | none => (false, s)

/-- DEBUG_HOOK.AllowSoftInt (R626): whether the software interrupt is allowed, and the state after the answer. -/
def softIntAllowed (s : State) : Bool × State :=
  match s.hooks.debug with
  | some ⟨c, a :: t⟩ => (a.yes, applyWrites a.writes { s with hooks := { s.hooks with debug := some ⟨c, t⟩ } })
  | some ⟨_, []⟩ => (true, s)
  | none => (true, s)

/-! ### Dispatch (60 section 2) -/

/-- The vector number of a fault (R611). -/
def faultVector (p : Params) : CpuFault → Byte
  | .divideError => p.vecDivide
  | .boundRange => p.vecBound
  | .invalidOpcode => p.vecInvalidOpcode
  | .segmentNotPresent => p.vecSegNotPresent
  | .generalProtection => p.vecGp
  | .nonExecutableSegment _ => p.vecNonExec

/-- `REWIND(f)` (R611, R652). -/
def faultRewinds (p : Params) : CpuFault → Bool
  | .divideError => p.rewindDivide
  | .boundRange => p.rewindBound
  | .invalidOpcode => p.rewindInvalidOpcode
  | .segmentNotPresent => p.rewindSegNotPresent
  | .generalProtection => p.rewindGp
  | .nonExecutableSegment _ => p.rewindNonExec

/-- `fatal(reason)` (R653): the sticky reason with what the host is handed (R612; log 21). -/
def State.stopFatal (s : State) (why : FatalWhy) (n : Byte) (kind : IntKind) (cause : Option CpuFault) : State :=
  { s with fatal := some ⟨why, n, kind, cause, s.sregs.cs, s.ipStart⟩ }

/-- The offset of vector n in the table (20_memory R130). -/
def vectorOffset (n : Byte) : Word := zext8 n * 4

/-- The vector entry of interrupt n (20_memory R130): its offset, then its segment. -/
def readVector (n : Byte) (s : State) : Res (Word × Word) :=
  (memRead16 s.params.ivtSel (vectorOffset n) s).bind fun off s =>
  (memRead16 s.params.ivtSel (vectorOffset n + 2) s).bind fun sel s => .ok (off, sel) s

/-- The interrupt flags of a handler: IF clear, TF clear only under DISPATCH_CLEARS_TF (R620, R621). -/
def enterFlags (p : Params) (fe : FlagEngine) : FlagEngine :=
  { fe with if_ := false, tf := fe.tf && !p.dispatchClearsTf }

/-- The entry into a handler (R620, R621): flags, CS and IP pushed, IF cleared, CS:IP loaded through `WriteCS`. -/
def enterHandler (off sel : Word) (s : State) : Res Unit :=
  (push16 (flagsImage16 s.params s.fe) s).bind fun _ s =>
  (push16 s.sregs.cs s).bind fun _ s =>
  (push16 s.ip s).bind fun _ s => jumpFar sel off (s.setFlags (enterFlags s.params s.fe))

/-- `Dispatch(n, kind)` (R620 to R623, R627): taking an interrupt or exception. A null vector and a fault inside the
dispatch are fatal. `cause` is the fault being delivered, for the host's record (R612). -/
def dispatch (n : Byte) (kind : IntKind) (cause : Option CpuFault) (s : State) : State :=
  match hostClaims s with
  | (true, s) => s
  | (false, s) =>
    match readVector n s with
    | .raise f s => s.stopFatal (.dispatchFault f) n kind cause
    | .ok (off, sel) s =>
      if off = 0 ∧ sel = 0 then s.stopFatal .noHandler n kind cause
      else
        match enterHandler off sel s with
        | .raise f s => s.stopFatal (.dispatchFault f) n kind cause
        | .ok _ s => s

/-- `HandleFault(f)` (R650, R651): IP rewound to the slot's first byte, then the dispatch of the fault's vector. -/
def handleFault (f : CpuFault) (s : State) : State :=
  dispatch (faultVector s.params f) .fault (some f) (if faultRewinds s.params f then s.setIP s.ipStart else s)

/-- `SoftwareInterrupt(n)` (R625, R626). -/
def softwareInterrupt (n : Byte) (s : State) : State :=
  match softIntAllowed s with
  | (false, s) => s
  | (true, s) => dispatch n .software none s

/-- `InterruptCheck()` (R640, R641): the slot is emptied before the dispatch. -/
def interruptCheck (s : State) : State :=
  match s.pending with
  | some n => if s.fe.if_ then dispatch n .hardware none { s with pending := none } else s
  | none => s

/-- The return from a handler, IRET (48 R545): everything is read and CS is checked before anything is written. -/
def returnFromInterrupt (s : State) : Res Unit :=
  (stackWord 0 s).bind fun off s =>
  (stackWord 2 s).bind fun sel s =>
  (stackWord 4 s).bind fun fl s =>
  (checkCS sel s).bind fun _ s =>
  (jumpFar sel off s).bind fun _ s =>
    .done ((s.setFlags (setFlags16 fl s.fe)).setSP (s.regs.sp + 6))

/-! ### The outcome of an instruction -/

/-- What a meaning answers. -/
abbrev Out := Host.Outcome State Fault Refusal

/-- The Loop's catch point (R650, R661): a completed instruction gives its state, a raised fault the state after it
is handled. -/
def Res.outcome (r : Res Unit) : Out :=
  match r with
  | .ok _ s => .next s
  | .raise f s => .next (handleFault f s)

end Sys2Proof.Machine
end

