-- ==== Sys2Proof/Machine/Operands.lean ====
section
/-! DEFINITION. The Addressing Decoder and the operand accessors (spec 30_encoding R188 to R198, 46 section 1): the
effective address and its segment, the Decoded-Operand Cache, reads and writes of the r/m and reg operands, the
direct address of A0 to A3. The bytes of the operand were fetched before the operation runs (log 19), so an accessor
is given the ModRM operand and fetches nothing. -/

namespace Sys2Proof.Machine

/-! ### Effective addresses -/

/-- The sum of base and index registers (R191), modulo 2^16 like the address it enters (R194). -/
def baseSum (g : Regs) : EABase → Word
  | .bxSi => g.bx + g.si
  | .bxDi => g.bx + g.di
  | .bpSi => g.bp + g.si
  | .bpDi => g.bp + g.di
  | .si => g.si
  | .di => g.di
  | .bp => g.bp
  | .bx => g.bx

/-- The default segment of a combination: SS where BP takes part (R191, R196). -/
def baseSeg : EABase → SReg
  | .bxSi => .ds
  | .bxDi => .ds
  | .bpSi => .ss
  | .bpDi => .ss
  | .si => .ds
  | .di => .ds
  | .bp => .ss
  | .bx => .ds

/-- The offset of a memory form (R190, R193 to R195). -/
def formOffset (g : Regs) : MemEA → Word
  | .base b => baseSum g b
  | .disp8 b d => baseSum g b + sext8 d
  | .disp16 b d => baseSum g b + d
  | .direct d => d

/-- The default segment of a memory form; the direct address has DS (R196). -/
def formSeg : MemEA → SReg
  | .base b => baseSeg b
  | .disp8 b _ => baseSeg b
  | .disp16 b _ => baseSeg b
  | .direct _ => .ds

/-- A segment with an override put in its place (R197). -/
def State.segmentOr (s : State) (r : SReg) : Word := s.sreg (s.segOverride.getD r)

/-! ### The Decoded-Operand Cache -/

/-- A fetched ModRM byte with its displacement: the reg field and the location of mod and rm (R188, R189). -/
structure ModRM where
  reg : BitVec 3
  rm : Rm (BitVec 3)
deriving DecidableEq, Repr

/-- The ModRM operand of an instruction with a byte operand. -/
def modrm8 (g : BitVec 3) (rm : Rm Reg8) : ModRM := ⟨g, rm.nums8⟩

/-- The ModRM operand of an instruction with a word operand. -/
def modrm16 (g : BitVec 3) (rm : Rm Reg16) : ModRM := ⟨g, rm.nums16⟩

/-- The ModRM operand of an instruction whose operand must be memory (R207). -/
def modrmMem (g : BitVec 3) (m : MemEA) : ModRM := ⟨g, .mem m⟩

/-- What the decode writes to the cache (R190): the registers are those of the moment of the decode. For a register
form the spec gives seg and off no value; they are kept (log 13). -/
def ModRM.cache (m : ModRM) (s : State) : OperandCache :=
  match m.rm with
  | .reg n => { s.doc with valid := true, mod := 3, reg := m.reg, rm := n, isMem := false }
  | .mem e => ⟨true, m.rm.modField, m.reg, m.rm.rmField, true, s.segmentOr (formSeg e), formOffset s.regs e⟩

/-- `DecodeModRM()` (R190, 10_state R97): a second call in a slot changes nothing. -/
def decodeModRM (m : ModRM) (s : State) : State := if s.doc.valid then s else { s with doc := m.cache s }

/-! ### Accessors (46 section 1) -/

/-- `ReadEA_8()` (R431). -/
def readEA8 (m : ModRM) (s : State) : Res Byte :=
  let s := decodeModRM m s
  if s.doc.isMem then memRead8 s.doc.seg s.doc.off s else .ok (s.reg8 (Reg8.ofNum s.doc.rm)) s

/-- `ReadEA_16()` (R431). -/
def readEA16 (m : ModRM) (s : State) : Res Word :=
  let s := decodeModRM m s
  if s.doc.isMem then memRead16 s.doc.seg s.doc.off s else .ok (s.reg16 (Reg16.ofNum s.doc.rm)) s

/-- `WriteEA_8(v)` (R432). -/
def writeEA8 (m : ModRM) (v : Byte) (s : State) : Res Unit :=
  let s := decodeModRM m s
  if s.doc.isMem then memWrite8 s.doc.seg s.doc.off v s else .done (s.setReg8 (Reg8.ofNum s.doc.rm) v)

/-- `WriteEA_16(v)` (R432). -/
def writeEA16 (m : ModRM) (v : Word) (s : State) : Res Unit :=
  let s := decodeModRM m s
  if s.doc.isMem then memWrite16 s.doc.seg s.doc.off v s else .done (s.setReg16 (Reg16.ofNum s.doc.rm) v)

/-- `ReadRegField_8()` (R433). -/
def readRegField8 (m : ModRM) (s : State) : Res Byte :=
  let s := decodeModRM m s
  .ok (s.reg8 (Reg8.ofNum s.doc.reg)) s

/-- `ReadRegField_16()` (R433). -/
def readRegField16 (m : ModRM) (s : State) : Res Word :=
  let s := decodeModRM m s
  .ok (s.reg16 (Reg16.ofNum s.doc.reg)) s

/-- `WriteRegField_8(v)` (R434). -/
def writeRegField8 (m : ModRM) (v : Byte) (s : State) : Res Unit :=
  let s := decodeModRM m s
  .done (s.setReg8 (Reg8.ofNum s.doc.reg) v)

/-- `WriteRegField_16(v)` (R434). -/
def writeRegField16 (m : ModRM) (v : Word) (s : State) : Res Unit :=
  let s := decodeModRM m s
  .done (s.setReg16 (Reg16.ofNum s.doc.reg) v)

/-- `EAOffset()` (R435): InvalidOpcode unless the operand is memory. -/
def eaOffset (m : ModRM) (s : State) : Res Word :=
  let s := decodeModRM m s
  if s.doc.isMem then .ok s.doc.off s else .raise .invalidOpcode s

/-- `ReadEAWordAt(k)` (R435): the word k bytes after the operand's offset, wrapped inside the segment. -/
def readEAWordAt (m : ModRM) (k : Word) (s : State) : Res Word :=
  let s := decodeModRM m s
  memRead16 s.doc.seg (s.doc.off + k) s

/-- `MoffsRead_8()` (R437). -/
def moffsRead8 (addr : Word) (s : State) : Res Byte := memRead8 (s.segmentOr .ds) addr s

/-- `MoffsRead_16()` (R437). -/
def moffsRead16 (addr : Word) (s : State) : Res Word := memRead16 (s.segmentOr .ds) addr s

/-- `MoffsWrite_8(v)` (R437). -/
def moffsWrite8 (addr : Word) (v : Byte) (s : State) : Res Unit := memWrite8 (s.segmentOr .ds) addr v s

/-- `MoffsWrite_16(v)` (R437). -/
def moffsWrite16 (addr : Word) (v : Word) (s : State) : Res Unit := memWrite16 (s.segmentOr .ds) addr v s

end Sys2Proof.Machine
end

