-- ==== Sys2Proof/Machine/Arith.lean ====
section
/-! DEFINITION. ADD, OR, ADC, SBB, AND, SUB, XOR, CMP, INC, DEC and NEG in all their forms (spec 40 R266, R267, R272). The flags
are written after the write-back, so that a refused write-back leaves them as they were (46 R436, 60 R651). -/

namespace Sys2Proof.Machine

/-! ### Shared forms -/

/-- An ALU operation on two bytes: its result to the destination unless it is CMP, then its flags (R266). -/
def aluCommit8 (op : AluOp) (a b : Byte) (dest : Byte → State → Res Unit) (s : State) : Res Unit :=
  let (r, fe) := op.apply a b s.fe
  if op.writes then (dest r s).bind fun _ s => .done (s.setFlags fe) else .done (s.setFlags fe)

/-- An ALU operation on two words (R266). -/
def aluCommit16 (op : AluOp) (a b : Word) (dest : Word → State → Res Unit) (s : State) : Res Unit :=
  let (r, fe) := op.apply a b s.fe
  if op.writes then (dest r s).bind fun _ s => .done (s.setFlags fe) else .done (s.setFlags fe)

/-- `k r/m8, r8` (R266). -/
def aluRmR8 (op : AluOp) (m : ModRM) (s : State) : Res Unit :=
  (readEA8 m s).bind fun d s => (readRegField8 m s).bind fun v s => aluCommit8 op d v (writeEA8 m) s

/-- `k r/m16, r16` (R266). -/
def aluRmR16 (op : AluOp) (m : ModRM) (s : State) : Res Unit :=
  (readEA16 m s).bind fun d s => (readRegField16 m s).bind fun v s => aluCommit16 op d v (writeEA16 m) s

/-- `k r8, r/m8` (R266). -/
def aluRRm8 (op : AluOp) (m : ModRM) (s : State) : Res Unit :=
  (readEA8 m s).bind fun v s => (readRegField8 m s).bind fun d s => aluCommit8 op d v (writeRegField8 m) s

/-- `k r16, r/m16` (R266). -/
def aluRRm16 (op : AluOp) (m : ModRM) (s : State) : Res Unit :=
  (readEA16 m s).bind fun v s => (readRegField16 m s).bind fun d s => aluCommit16 op d v (writeRegField16 m) s

/-- `k AL, imm8` (R266). -/
def aluAlImm (op : AluOp) (imm : Byte) (s : State) : Res Unit :=
  aluCommit8 op (s.reg8 .al) imm (fun r s => .done (s.setReg8 .al r)) s

/-- `k AX, imm16` (R266). -/
def aluAxImm (op : AluOp) (imm : Word) (s : State) : Res Unit :=
  aluCommit16 op s.regs.ax imm (fun r s => .done (s.setReg16 .ax r)) s

/-- `k r/m8, imm8` (R266). -/
def aluRmImm8 (op : AluOp) (m : ModRM) (imm : Byte) (s : State) : Res Unit :=
  (readEA8 m s).bind fun d s => aluCommit8 op d imm (writeEA8 m) s

/-- `k r/m16, imm16`, and with the immediate extended `k r/m16, imm8s` (R266). -/
def aluRmImm16 (op : AluOp) (m : ModRM) (imm : Word) (s : State) : Res Unit :=
  (readEA16 m s).bind fun d s => aluCommit16 op d imm (writeEA16 m) s

/-- A one-operand operation on `r/m8`: read, write-back, flags (R267, R272, R295). -/
def unaryRm8 (f : Byte → FlagEngine → Byte × FlagEngine) (m : ModRM) (s : State) : Res Unit :=
  (readEA8 m s).bind fun d s =>
    let (r, fe) := f d s.fe
    (writeEA8 m r s).bind fun _ s => .done (s.setFlags fe)

/-- A one-operand operation on `r/m16` (R267, R272, R295). -/
def unaryRm16 (f : Word → FlagEngine → Word × FlagEngine) (m : ModRM) (s : State) : Res Unit :=
  (readEA16 m s).bind fun d s =>
    let (r, fe) := f d s.fe
    (writeEA16 m r s).bind fun _ s => .done (s.setFlags fe)

/-- A one-operand operation on a word register named by the opcode (R272). -/
def unaryR16 (f : Word → FlagEngine → Word × FlagEngine) (r : Reg16) (s : State) : Res Unit :=
  let (v, fe) := f (s.reg16 r) s.fe
  .done ((s.setFlags fe).setReg16 r v)

/-! ### Instructions -/

/-- 00: ADD r/m8, r8 (R266, R260). -/
def execAddRm8R8 (rm : Rm Reg8) (r : Reg8) (s : State) : Out := (aluRmR8 .add (modrm8 r.num rm) s).outcome

/-- 01: ADD r/m16, r16 (R266, R260). -/
def execAddRm16R16 (rm : Rm Reg16) (r : Reg16) (s : State) : Out := (aluRmR16 .add (modrm16 r.num rm) s).outcome

/-- 02: ADD r8, r/m8 (R266, R260). -/
def execAddR8Rm8 (r : Reg8) (rm : Rm Reg8) (s : State) : Out := (aluRRm8 .add (modrm8 r.num rm) s).outcome

/-- 03: ADD r16, r/m16 (R266, R260). -/
def execAddR16Rm16 (r : Reg16) (rm : Rm Reg16) (s : State) : Out := (aluRRm16 .add (modrm16 r.num rm) s).outcome

/-- 04: ADD AL, imm8 (R266, R260). -/
def execAddAlImm8 (imm : Byte) (s : State) : Out := (aluAlImm .add imm s).outcome

/-- 05: ADD AX, imm16 (R266, R260). -/
def execAddAxImm16 (imm : Word) (s : State) : Out := (aluAxImm .add imm s).outcome

/-- 08: OR r/m8, r8 (R266, R291). -/
def execOrRm8R8 (rm : Rm Reg8) (r : Reg8) (s : State) : Out := (aluRmR8 .or (modrm8 r.num rm) s).outcome

/-- 09: OR r/m16, r16 (R266, R291). -/
def execOrRm16R16 (rm : Rm Reg16) (r : Reg16) (s : State) : Out := (aluRmR16 .or (modrm16 r.num rm) s).outcome

/-- 0A: OR r8, r/m8 (R266, R291). -/
def execOrR8Rm8 (r : Reg8) (rm : Rm Reg8) (s : State) : Out := (aluRRm8 .or (modrm8 r.num rm) s).outcome

/-- 0B: OR r16, r/m16 (R266, R291). -/
def execOrR16Rm16 (r : Reg16) (rm : Rm Reg16) (s : State) : Out := (aluRRm16 .or (modrm16 r.num rm) s).outcome

/-- 0C: OR AL, imm8 (R266, R291). -/
def execOrAlImm8 (imm : Byte) (s : State) : Out := (aluAlImm .or imm s).outcome

/-- 0D: OR AX, imm16 (R266, R291). -/
def execOrAxImm16 (imm : Word) (s : State) : Out := (aluAxImm .or imm s).outcome

/-- 10: ADC r/m8, r8 (R266, R261). -/
def execAdcRm8R8 (rm : Rm Reg8) (r : Reg8) (s : State) : Out := (aluRmR8 .adc (modrm8 r.num rm) s).outcome

/-- 11: ADC r/m16, r16 (R266, R261). -/
def execAdcRm16R16 (rm : Rm Reg16) (r : Reg16) (s : State) : Out := (aluRmR16 .adc (modrm16 r.num rm) s).outcome

/-- 12: ADC r8, r/m8 (R266, R261). -/
def execAdcR8Rm8 (r : Reg8) (rm : Rm Reg8) (s : State) : Out := (aluRRm8 .adc (modrm8 r.num rm) s).outcome

/-- 13: ADC r16, r/m16 (R266, R261). -/
def execAdcR16Rm16 (r : Reg16) (rm : Rm Reg16) (s : State) : Out := (aluRRm16 .adc (modrm16 r.num rm) s).outcome

/-- 14: ADC AL, imm8 (R266, R261). -/
def execAdcAlImm8 (imm : Byte) (s : State) : Out := (aluAlImm .adc imm s).outcome

/-- 15: ADC AX, imm16 (R266, R261). -/
def execAdcAxImm16 (imm : Word) (s : State) : Out := (aluAxImm .adc imm s).outcome

/-- 18: SBB r/m8, r8 (R266, R263). -/
def execSbbRm8R8 (rm : Rm Reg8) (r : Reg8) (s : State) : Out := (aluRmR8 .sbb (modrm8 r.num rm) s).outcome

/-- 19: SBB r/m16, r16 (R266, R263). -/
def execSbbRm16R16 (rm : Rm Reg16) (r : Reg16) (s : State) : Out := (aluRmR16 .sbb (modrm16 r.num rm) s).outcome

/-- 1A: SBB r8, r/m8 (R266, R263). -/
def execSbbR8Rm8 (r : Reg8) (rm : Rm Reg8) (s : State) : Out := (aluRRm8 .sbb (modrm8 r.num rm) s).outcome

/-- 1B: SBB r16, r/m16 (R266, R263). -/
def execSbbR16Rm16 (r : Reg16) (rm : Rm Reg16) (s : State) : Out := (aluRRm16 .sbb (modrm16 r.num rm) s).outcome

/-- 1C: SBB AL, imm8 (R266, R263). -/
def execSbbAlImm8 (imm : Byte) (s : State) : Out := (aluAlImm .sbb imm s).outcome

/-- 1D: SBB AX, imm16 (R266, R263). -/
def execSbbAxImm16 (imm : Word) (s : State) : Out := (aluAxImm .sbb imm s).outcome

/-- 20: AND r/m8, r8 (R266, R290). -/
def execAndRm8R8 (rm : Rm Reg8) (r : Reg8) (s : State) : Out := (aluRmR8 .and (modrm8 r.num rm) s).outcome

/-- 21: AND r/m16, r16 (R266, R290). -/
def execAndRm16R16 (rm : Rm Reg16) (r : Reg16) (s : State) : Out := (aluRmR16 .and (modrm16 r.num rm) s).outcome

/-- 22: AND r8, r/m8 (R266, R290). -/
def execAndR8Rm8 (r : Reg8) (rm : Rm Reg8) (s : State) : Out := (aluRRm8 .and (modrm8 r.num rm) s).outcome

/-- 23: AND r16, r/m16 (R266, R290). -/
def execAndR16Rm16 (r : Reg16) (rm : Rm Reg16) (s : State) : Out := (aluRRm16 .and (modrm16 r.num rm) s).outcome

/-- 24: AND AL, imm8 (R266, R290). -/
def execAndAlImm8 (imm : Byte) (s : State) : Out := (aluAlImm .and imm s).outcome

/-- 25: AND AX, imm16 (R266, R290). -/
def execAndAxImm16 (imm : Word) (s : State) : Out := (aluAxImm .and imm s).outcome

/-- 28: SUB r/m8, r8 (R266, R262). -/
def execSubRm8R8 (rm : Rm Reg8) (r : Reg8) (s : State) : Out := (aluRmR8 .sub (modrm8 r.num rm) s).outcome

/-- 29: SUB r/m16, r16 (R266, R262). -/
def execSubRm16R16 (rm : Rm Reg16) (r : Reg16) (s : State) : Out := (aluRmR16 .sub (modrm16 r.num rm) s).outcome

/-- 2A: SUB r8, r/m8 (R266, R262). -/
def execSubR8Rm8 (r : Reg8) (rm : Rm Reg8) (s : State) : Out := (aluRRm8 .sub (modrm8 r.num rm) s).outcome

/-- 2B: SUB r16, r/m16 (R266, R262). -/
def execSubR16Rm16 (r : Reg16) (rm : Rm Reg16) (s : State) : Out := (aluRRm16 .sub (modrm16 r.num rm) s).outcome

/-- 2C: SUB AL, imm8 (R266, R262). -/
def execSubAlImm8 (imm : Byte) (s : State) : Out := (aluAlImm .sub imm s).outcome

/-- 2D: SUB AX, imm16 (R266, R262). -/
def execSubAxImm16 (imm : Word) (s : State) : Out := (aluAxImm .sub imm s).outcome

/-- 30: XOR r/m8, r8 (R266, R292). -/
def execXorRm8R8 (rm : Rm Reg8) (r : Reg8) (s : State) : Out := (aluRmR8 .xor (modrm8 r.num rm) s).outcome

/-- 31: XOR r/m16, r16 (R266, R292). -/
def execXorRm16R16 (rm : Rm Reg16) (r : Reg16) (s : State) : Out := (aluRmR16 .xor (modrm16 r.num rm) s).outcome

/-- 32: XOR r8, r/m8 (R266, R292). -/
def execXorR8Rm8 (r : Reg8) (rm : Rm Reg8) (s : State) : Out := (aluRRm8 .xor (modrm8 r.num rm) s).outcome

/-- 33: XOR r16, r/m16 (R266, R292). -/
def execXorR16Rm16 (r : Reg16) (rm : Rm Reg16) (s : State) : Out := (aluRRm16 .xor (modrm16 r.num rm) s).outcome

/-- 34: XOR AL, imm8 (R266, R292). -/
def execXorAlImm8 (imm : Byte) (s : State) : Out := (aluAlImm .xor imm s).outcome

/-- 35: XOR AX, imm16 (R266, R292). -/
def execXorAxImm16 (imm : Word) (s : State) : Out := (aluAxImm .xor imm s).outcome

/-- 38: CMP r/m8, r8 (R266, R264). -/
def execCmpRm8R8 (rm : Rm Reg8) (r : Reg8) (s : State) : Out := (aluRmR8 .cmp (modrm8 r.num rm) s).outcome

/-- 39: CMP r/m16, r16 (R266, R264). -/
def execCmpRm16R16 (rm : Rm Reg16) (r : Reg16) (s : State) : Out := (aluRmR16 .cmp (modrm16 r.num rm) s).outcome

/-- 3A: CMP r8, r/m8 (R266, R264). -/
def execCmpR8Rm8 (r : Reg8) (rm : Rm Reg8) (s : State) : Out := (aluRRm8 .cmp (modrm8 r.num rm) s).outcome

/-- 3B: CMP r16, r/m16 (R266, R264). -/
def execCmpR16Rm16 (r : Reg16) (rm : Rm Reg16) (s : State) : Out := (aluRRm16 .cmp (modrm16 r.num rm) s).outcome

/-- 3C: CMP AL, imm8 (R266, R264). -/
def execCmpAlImm8 (imm : Byte) (s : State) : Out := (aluAlImm .cmp imm s).outcome

/-- 3D: CMP AX, imm16 (R266, R264). -/
def execCmpAxImm16 (imm : Word) (s : State) : Out := (aluAxImm .cmp imm s).outcome

/-- 40: INC r16 (R272, R270). -/
def execIncR16 (r : Reg16) (s : State) : Out := (unaryR16 inc r s).outcome

/-- 48: DEC r16 (R272, R271). -/
def execDecR16 (r : Reg16) (s : State) : Out := (unaryR16 dec r s).outcome

/-- 80 /0: ADD r/m8, imm8 (R266, R260). -/
def execAddRm8Imm8 (rm : Rm Reg8) (imm : Byte) (s : State) : Out := (aluRmImm8 .add (modrm8 0 rm) imm s).outcome

/-- 80 /1: OR r/m8, imm8 (R266, R291). -/
def execOrRm8Imm8 (rm : Rm Reg8) (imm : Byte) (s : State) : Out := (aluRmImm8 .or (modrm8 1 rm) imm s).outcome

/-- 80 /2: ADC r/m8, imm8 (R266, R261). -/
def execAdcRm8Imm8 (rm : Rm Reg8) (imm : Byte) (s : State) : Out := (aluRmImm8 .adc (modrm8 2 rm) imm s).outcome

/-- 80 /3: SBB r/m8, imm8 (R266, R263). -/
def execSbbRm8Imm8 (rm : Rm Reg8) (imm : Byte) (s : State) : Out := (aluRmImm8 .sbb (modrm8 3 rm) imm s).outcome

/-- 80 /4: AND r/m8, imm8 (R266, R290). -/
def execAndRm8Imm8 (rm : Rm Reg8) (imm : Byte) (s : State) : Out := (aluRmImm8 .and (modrm8 4 rm) imm s).outcome

/-- 80 /5: SUB r/m8, imm8 (R266, R262). -/
def execSubRm8Imm8 (rm : Rm Reg8) (imm : Byte) (s : State) : Out := (aluRmImm8 .sub (modrm8 5 rm) imm s).outcome

/-- 80 /6: XOR r/m8, imm8 (R266, R292). -/
def execXorRm8Imm8 (rm : Rm Reg8) (imm : Byte) (s : State) : Out := (aluRmImm8 .xor (modrm8 6 rm) imm s).outcome

/-- 80 /7: CMP r/m8, imm8 (R266, R264). -/
def execCmpRm8Imm8 (rm : Rm Reg8) (imm : Byte) (s : State) : Out := (aluRmImm8 .cmp (modrm8 7 rm) imm s).outcome

/-- 81 /0: ADD r/m16, imm16 (R266, R260). -/
def execAddRm16Imm16 (rm : Rm Reg16) (imm : Word) (s : State) : Out := (aluRmImm16 .add (modrm16 0 rm) imm s).outcome

/-- 81 /1: OR r/m16, imm16 (R266, R291). -/
def execOrRm16Imm16 (rm : Rm Reg16) (imm : Word) (s : State) : Out := (aluRmImm16 .or (modrm16 1 rm) imm s).outcome

/-- 81 /2: ADC r/m16, imm16 (R266, R261). -/
def execAdcRm16Imm16 (rm : Rm Reg16) (imm : Word) (s : State) : Out := (aluRmImm16 .adc (modrm16 2 rm) imm s).outcome

/-- 81 /3: SBB r/m16, imm16 (R266, R263). -/
def execSbbRm16Imm16 (rm : Rm Reg16) (imm : Word) (s : State) : Out := (aluRmImm16 .sbb (modrm16 3 rm) imm s).outcome

/-- 81 /4: AND r/m16, imm16 (R266, R290). -/
def execAndRm16Imm16 (rm : Rm Reg16) (imm : Word) (s : State) : Out := (aluRmImm16 .and (modrm16 4 rm) imm s).outcome

/-- 81 /5: SUB r/m16, imm16 (R266, R262). -/
def execSubRm16Imm16 (rm : Rm Reg16) (imm : Word) (s : State) : Out := (aluRmImm16 .sub (modrm16 5 rm) imm s).outcome

/-- 81 /6: XOR r/m16, imm16 (R266, R292). -/
def execXorRm16Imm16 (rm : Rm Reg16) (imm : Word) (s : State) : Out := (aluRmImm16 .xor (modrm16 6 rm) imm s).outcome

/-- 81 /7: CMP r/m16, imm16 (R266, R264). -/
def execCmpRm16Imm16 (rm : Rm Reg16) (imm : Word) (s : State) : Out := (aluRmImm16 .cmp (modrm16 7 rm) imm s).outcome

/-- 82 /0: ADD r/m8, imm8 (R266, R260). -/
def execAddRm8Imm8Op82 (rm : Rm Reg8) (imm : Byte) (s : State) : Out := (aluRmImm8 .add (modrm8 0 rm) imm s).outcome

/-- 82 /1: OR r/m8, imm8 (R266, R291). -/
def execOrRm8Imm8Op82 (rm : Rm Reg8) (imm : Byte) (s : State) : Out := (aluRmImm8 .or (modrm8 1 rm) imm s).outcome

/-- 82 /2: ADC r/m8, imm8 (R266, R261). -/
def execAdcRm8Imm8Op82 (rm : Rm Reg8) (imm : Byte) (s : State) : Out := (aluRmImm8 .adc (modrm8 2 rm) imm s).outcome

/-- 82 /3: SBB r/m8, imm8 (R266, R263). -/
def execSbbRm8Imm8Op82 (rm : Rm Reg8) (imm : Byte) (s : State) : Out := (aluRmImm8 .sbb (modrm8 3 rm) imm s).outcome

/-- 82 /4: AND r/m8, imm8 (R266, R290). -/
def execAndRm8Imm8Op82 (rm : Rm Reg8) (imm : Byte) (s : State) : Out := (aluRmImm8 .and (modrm8 4 rm) imm s).outcome

/-- 82 /5: SUB r/m8, imm8 (R266, R262). -/
def execSubRm8Imm8Op82 (rm : Rm Reg8) (imm : Byte) (s : State) : Out := (aluRmImm8 .sub (modrm8 5 rm) imm s).outcome

/-- 82 /6: XOR r/m8, imm8 (R266, R292). -/
def execXorRm8Imm8Op82 (rm : Rm Reg8) (imm : Byte) (s : State) : Out := (aluRmImm8 .xor (modrm8 6 rm) imm s).outcome

/-- 82 /7: CMP r/m8, imm8 (R266, R264). -/
def execCmpRm8Imm8Op82 (rm : Rm Reg8) (imm : Byte) (s : State) : Out := (aluRmImm8 .cmp (modrm8 7 rm) imm s).outcome

/-- 83 /0: ADD r/m16, imm8s (R266, R260). -/
def execAddRm16Imm8s (rm : Rm Reg16) (imm : Byte) (s : State) : Out :=
  (aluRmImm16 .add (modrm16 0 rm) (sext8 imm) s).outcome

/-- 83 /1: OR r/m16, imm8s (R266, R291). -/
def execOrRm16Imm8s (rm : Rm Reg16) (imm : Byte) (s : State) : Out :=
  (aluRmImm16 .or (modrm16 1 rm) (sext8 imm) s).outcome

/-- 83 /2: ADC r/m16, imm8s (R266, R261). -/
def execAdcRm16Imm8s (rm : Rm Reg16) (imm : Byte) (s : State) : Out :=
  (aluRmImm16 .adc (modrm16 2 rm) (sext8 imm) s).outcome

/-- 83 /3: SBB r/m16, imm8s (R266, R263). -/
def execSbbRm16Imm8s (rm : Rm Reg16) (imm : Byte) (s : State) : Out :=
  (aluRmImm16 .sbb (modrm16 3 rm) (sext8 imm) s).outcome

/-- 83 /4: AND r/m16, imm8s (R266, R290). -/
def execAndRm16Imm8s (rm : Rm Reg16) (imm : Byte) (s : State) : Out :=
  (aluRmImm16 .and (modrm16 4 rm) (sext8 imm) s).outcome

/-- 83 /5: SUB r/m16, imm8s (R266, R262). -/
def execSubRm16Imm8s (rm : Rm Reg16) (imm : Byte) (s : State) : Out :=
  (aluRmImm16 .sub (modrm16 5 rm) (sext8 imm) s).outcome

/-- 83 /6: XOR r/m16, imm8s (R266, R292). -/
def execXorRm16Imm8s (rm : Rm Reg16) (imm : Byte) (s : State) : Out :=
  (aluRmImm16 .xor (modrm16 6 rm) (sext8 imm) s).outcome

/-- 83 /7: CMP r/m16, imm8s (R266, R264). -/
def execCmpRm16Imm8s (rm : Rm Reg16) (imm : Byte) (s : State) : Out :=
  (aluRmImm16 .cmp (modrm16 7 rm) (sext8 imm) s).outcome

/-- F6 /3: NEG r/m8 (R267, R265). -/
def execNegRm8 (rm : Rm Reg8) (s : State) : Out := (unaryRm8 neg (modrm8 3 rm) s).outcome

/-- F7 /3: NEG r/m16 (R267, R265). -/
def execNegRm16 (rm : Rm Reg16) (s : State) : Out := (unaryRm16 neg (modrm16 3 rm) s).outcome

/-- FE /0: INC r/m8 (R272, R270). -/
def execIncRm8 (rm : Rm Reg8) (s : State) : Out := (unaryRm8 inc (modrm8 0 rm) s).outcome

/-- FE /1: DEC r/m8 (R272, R271). -/
def execDecRm8 (rm : Rm Reg8) (s : State) : Out := (unaryRm8 dec (modrm8 1 rm) s).outcome

/-- FF /0: INC r/m16 (R272, R270). -/
def execIncRm16 (rm : Rm Reg16) (s : State) : Out := (unaryRm16 inc (modrm16 0 rm) s).outcome

/-- FF /1: DEC r/m16 (R272, R271). -/
def execDecRm16 (rm : Rm Reg16) (s : State) : Out := (unaryRm16 dec (modrm16 1 rm) s).outcome

end Sys2Proof.Machine
end

