-- ==== Sys2Proof/Machine/Bcd.lean ====
section
/-! DEFINITION. AAA, AAS, DAA, DAS, AAM and AAD (spec 44). -/

namespace Sys2Proof.Machine

/-! ### Shared forms -/

/-- AAA and AAS: AL, AH and the flags replaced (R380, R381). -/
def asciiAdjust (f : Byte → Byte → FlagEngine → Byte × Byte × FlagEngine) (s : State) : Res Unit :=
  let (al, ah, fe) := f (s.reg8 .al) (s.reg8 .ah) s.fe
  .done ((s.setFlags fe).setReg16 .ax (word16 ah al))

/-- DAA and DAS: AL and the flags replaced (R382, R383). -/
def decimalAdjust (f : Byte → FlagEngine → Byte × FlagEngine) (s : State) : Res Unit :=
  let (al, fe) := f (s.reg8 .al) s.fe
  .done ((s.setFlags fe).setReg8 .al al)

/-- AAM: DivideError when the immediate is 0, before anything changes (R384). -/
def adjustAfterMultiply (b : Byte) (s : State) : Res Unit :=
  match aam (s.reg8 .al) b s.fe with
  | none => .raise .divideError s
  | some (al, ah, fe) => .done ((s.setFlags fe).setReg16 .ax (word16 ah al))

/-- AAD (R385). -/
def adjustBeforeDivide (b : Byte) (s : State) : Res Unit :=
  let (al, fe) := aad (s.reg8 .al) (s.reg8 .ah) b s.fe
  .done ((s.setFlags fe).setReg16 .ax (word16 0 al))

/-! ### Instructions -/

/-- D4: AAM imm8 (R384). -/
def execAamImm8 (imm : Byte) (s : State) : Out := (adjustAfterMultiply imm s).outcome

/-- D5: AAD imm8 (R385). -/
def execAadImm8 (imm : Byte) (s : State) : Out := (adjustBeforeDivide imm s).outcome

/-- 27: DAA (R382). -/
def execDaa (s : State) : Out := (decimalAdjust daa s).outcome

/-- 2F: DAS (R383). -/
def execDas (s : State) : Out := (decimalAdjust das s).outcome

/-- 37: AAA (R380). -/
def execAaa (s : State) : Out := (asciiAdjust aaa s).outcome

/-- 3F: AAS (R381). -/
def execAas (s : State) : Out := (asciiAdjust aas s).outcome

end Sys2Proof.Machine
end

