-- ==== Sys2Proof/Machine/Control.lean ====
section
/-! DEFINITION. JMP, Jcc, JCXZ, LOOP, CALL, RET, RETF, INT, INT3, INTO, IRET and BOUND (spec 48). IP stands at the byte after the
instruction when the operation runs (10_state R68). -/

namespace Sys2Proof.Machine

/-! ### Shared forms -/

/-- A relative jump (R510). -/
def jumpNear (d : Word) (s : State) : State := s.setIP (s.ip + d)

/-- A relative jump taken when the condition holds (R518, R519). -/
def jumpIf (c : Bool) (rel : Byte) (s : State) : State := if c then jumpNear (sext8 rel) s else s

/-- LOOP, LOOPE and LOOPNE (R520 to R522): CX down by 1, the jump taken when CX is not 0 and `c` holds. -/
def loopIf (c : Bool) (rel : Byte) (s : State) : State :=
  let s := s.setReg16 .cx (s.regs.cx - 1)
  jumpIf (s.regs.cx != 0 && c) rel s

/-- A far jump: the new CS is checked before anything is committed (R511, R514). -/
def jumpFarChecked (sel off : Word) (s : State) : Res Unit := (checkCS sel s).bind fun _ s => jumpFar sel off s

/-- A far pointer operand in memory: its offset and its segment (R516, R528). -/
def farPointer (m : ModRM) (s : State) : Res (Word × Word) :=
  (eaOffset m s).bind fun _ s =>
  (readEAWordAt m 0 s).bind fun off s =>
  (readEAWordAt m 2 s).bind fun sel s => .ok (off, sel) s

/-- A near call (R525, R526). -/
def callNear (target : Word) (s : State) : Res Unit := (push16 s.ip s).bind fun _ s => .done (s.setIP target)

/-- A far call (R527, R528): CS is pushed first, then IP. -/
def callFar (sel off : Word) (s : State) : Res Unit :=
  (checkCS sel s).bind fun _ s =>
  (push16 s.sregs.cs s).bind fun _ s =>
  (push16 s.ip s).bind fun _ s => jumpFar sel off s

/-- RET, and RET n with n more bytes released (R530, R531). -/
def returnNear (n : Word) (s : State) : Res Unit :=
  (pop16 s).bind fun v s => .done ((s.setIP v).setSP (s.regs.sp + n))

/-- RETF, and RETF n with n more bytes released (R532, R533): SP is committed after the check. -/
def returnFar (n : Word) (s : State) : Res Unit :=
  (stackWord 0 s).bind fun off s =>
  (stackWord 2 s).bind fun sel s =>
  (checkCS sel s).bind fun _ s =>
  (jumpFar sel off s).bind fun _ s => .done (s.setSP (s.regs.sp + 4 + n))

/-- BOUND (R548): the index and the pair read as signed. -/
def checkBounds (m : ModRM) (s : State) : Res Unit :=
  (eaOffset m s).bind fun _ s =>
  (readEAWordAt m 0 s).bind fun lo s =>
  (readEAWordAt m 2 s).bind fun hi s =>
  (readRegField16 m s).bind fun i s =>
    if i.toInt < lo.toInt ∨ hi.toInt < i.toInt then .raise .boundRange s else .done s

/-! ### Instructions -/

/-- 62: BOUND r16, m16&16 (R548). -/
def execBoundR16M (r : Reg16) (m : MemEA) (s : State) : Out := (checkBounds (modrmMem r.num m) s).outcome

/-- 70: JO rel8 (R518). -/
def execJoRel8 (rel : Byte) (s : State) : Out := .next (jumpIf (Cond.holds .o s.fe) rel s)

/-- 71: JNO rel8 (R518). -/
def execJnoRel8 (rel : Byte) (s : State) : Out := .next (jumpIf (Cond.holds .no s.fe) rel s)

/-- 72: JB rel8 (R518). -/
def execJbRel8 (rel : Byte) (s : State) : Out := .next (jumpIf (Cond.holds .b s.fe) rel s)

/-- 73: JAE rel8 (R518). -/
def execJaeRel8 (rel : Byte) (s : State) : Out := .next (jumpIf (Cond.holds .ae s.fe) rel s)

/-- 74: JE rel8 (R518). -/
def execJeRel8 (rel : Byte) (s : State) : Out := .next (jumpIf (Cond.holds .e s.fe) rel s)

/-- 75: JNE rel8 (R518). -/
def execJneRel8 (rel : Byte) (s : State) : Out := .next (jumpIf (Cond.holds .ne s.fe) rel s)

/-- 76: JBE rel8 (R518). -/
def execJbeRel8 (rel : Byte) (s : State) : Out := .next (jumpIf (Cond.holds .be s.fe) rel s)

/-- 77: JA rel8 (R518). -/
def execJaRel8 (rel : Byte) (s : State) : Out := .next (jumpIf (Cond.holds .a s.fe) rel s)

/-- 78: JS rel8 (R518). -/
def execJsRel8 (rel : Byte) (s : State) : Out := .next (jumpIf (Cond.holds .s s.fe) rel s)

/-- 79: JNS rel8 (R518). -/
def execJnsRel8 (rel : Byte) (s : State) : Out := .next (jumpIf (Cond.holds .ns s.fe) rel s)

/-- 7A: JP rel8 (R518). -/
def execJpRel8 (rel : Byte) (s : State) : Out := .next (jumpIf (Cond.holds .p s.fe) rel s)

/-- 7B: JNP rel8 (R518). -/
def execJnpRel8 (rel : Byte) (s : State) : Out := .next (jumpIf (Cond.holds .np s.fe) rel s)

/-- 7C: JL rel8 (R518). -/
def execJlRel8 (rel : Byte) (s : State) : Out := .next (jumpIf (Cond.holds .l s.fe) rel s)

/-- 7D: JGE rel8 (R518). -/
def execJgeRel8 (rel : Byte) (s : State) : Out := .next (jumpIf (Cond.holds .ge s.fe) rel s)

/-- 7E: JLE rel8 (R518). -/
def execJleRel8 (rel : Byte) (s : State) : Out := .next (jumpIf (Cond.holds .le s.fe) rel s)

/-- 7F: JG rel8 (R518). -/
def execJgRel8 (rel : Byte) (s : State) : Out := .next (jumpIf (Cond.holds .g s.fe) rel s)

/-- 9A: CALL far seg:off (R527). -/
def execCallFarDirect (off : Word) (sel : Word) (s : State) : Out := (callFar sel off s).outcome

/-- C2: RET imm16 (R531). -/
def execRetImm16 (imm : Word) (s : State) : Out := (returnNear imm s).outcome

/-- CA: RETF imm16 (R533). -/
def execRetfImm16 (imm : Word) (s : State) : Out := (returnFar imm s).outcome

/-- CD: INT imm8 (R540). -/
def execIntImm8 (imm : Byte) (s : State) : Out := .next (softwareInterrupt imm s)

/-- E0: LOOPNE rel8 (R522). -/
def execLoopneRel8 (rel : Byte) (s : State) : Out := .next (loopIf (!s.fe.zf) rel s)

/-- E1: LOOPE rel8 (R521). -/
def execLoopeRel8 (rel : Byte) (s : State) : Out := .next (loopIf s.fe.zf rel s)

/-- E2: LOOP rel8 (R520). -/
def execLoopRel8 (rel : Byte) (s : State) : Out := .next (loopIf true rel s)

/-- E3: JCXZ rel8 (R519). -/
def execJcxzRel8 (rel : Byte) (s : State) : Out := .next (jumpIf (s.regs.cx == 0) rel s)

/-- E8: CALL rel16 (R525). -/
def execCallRel16 (rel : Word) (s : State) : Out := (callNear (s.ip + rel) s).outcome

/-- E9: JMP rel16 (R513). -/
def execJmpRel16 (rel : Word) (s : State) : Out := .next (jumpNear rel s)

/-- EA: JMP far seg:off (R514). -/
def execJmpFarDirect (off : Word) (sel : Word) (s : State) : Out := (jumpFarChecked sel off s).outcome

/-- EB: JMP rel8 (R512). -/
def execJmpRel8 (rel : Byte) (s : State) : Out := .next (jumpNear (sext8 rel) s)

/-- FF /2: CALL r/m16 (R526). -/
def execCallRm16 (rm : Rm Reg16) (s : State) : Out :=
  ((readEA16 (modrm16 2 rm) s).bind fun t s => callNear t s).outcome

/-- FF /3: CALL far m16:16 (R528). -/
def execCallFarMem (m : MemEA) (s : State) : Out :=
  ((farPointer (modrmMem 3 m) s).bind fun p s => callFar p.2 p.1 s).outcome

/-- FF /4: JMP r/m16 (R515). -/
def execJmpRm16 (rm : Rm Reg16) (s : State) : Out :=
  ((readEA16 (modrm16 4 rm) s).bind fun t s => .done (s.setIP t)).outcome

/-- FF /5: JMP far m16:16 (R516). -/
def execJmpFarMem (m : MemEA) (s : State) : Out :=
  ((farPointer (modrmMem 5 m) s).bind fun p s => jumpFarChecked p.2 p.1 s).outcome

/-- C3: RET (R530). -/
def execRet (s : State) : Out := (returnNear 0 s).outcome

/-- CB: RETF (R532). -/
def execRetf (s : State) : Out := (returnFar 0 s).outcome

/-- CC: INT3 (R541). -/
def execInt3 (s : State) : Out := .next (softwareInterrupt s.params.vecBreakpoint s)

/-- CE: INTO (R542). -/
def execInto (s : State) : Out := .next (if s.fe.of_ then softwareInterrupt s.params.vecOverflow s else s)

/-- CF: IRET (R545). -/
def execIret (s : State) : Out := (returnFromInterrupt s).outcome

end Sys2Proof.Machine
end

