-- ==== Sys2Proof/Machine/FlagOps.lean ====
section
/-! DEFINITION. CLC, STC, CMC, CLI, STI, CLD, STD, LAHF, SAHF, PUSHF and POPF (spec 45). -/

namespace Sys2Proof.Machine

/-- 9C: PUSHF (R410). -/
def execPushf (s : State) : Out := (push16 (flagsImage16 s.params s.fe) s).outcome

/-- 9D: POPF (R411). -/
def execPopf (s : State) : Out := ((pop16 s).bind fun v s => .done (s.setFlags (setFlags16 v s.fe))).outcome

/-- 9E: SAHF (R408). -/
def execSahf (s : State) : Out := .next (s.setFlags (setFlags8 (s.reg8 .ah) s.fe))

/-- 9F: LAHF (R407). -/
def execLahf (s : State) : Out := .next (s.setReg8 .ah (flagsImage8 s.params s.fe))

/-- F5: CMC (R402). -/
def execCmc (s : State) : Out := .next (s.setFlags (s.fe.setCarry (!s.fe.cf)))

/-- F8: CLC (R400). -/
def execClc (s : State) : Out := .next (s.setFlags (s.fe.setCarry false))

/-- F9: STC (R401). -/
def execStc (s : State) : Out := .next (s.setFlags (s.fe.setCarry true))

/-- FA: CLI (R403). -/
def execCli (s : State) : Out := .next (s.setFlags { s.fe with if_ := false })

/-- FB: STI (R404). -/
def execSti (s : State) : Out := .next (s.setFlags { s.fe with if_ := true })

/-- FC: CLD (R405). -/
def execCld (s : State) : Out := .next (s.setFlags { s.fe with df := false })

/-- FD: STD (R406). -/
def execStd (s : State) : Out := .next (s.setFlags { s.fe with df := true })

end Sys2Proof.Machine
end

