-- ==== Sys2Proof/Machine/Logic.lean ====
section
/-! DEFINITION. TEST and NOT in all their forms (spec 41 R294, R295); AND, OR and XOR are in Arith.lean. -/

namespace Sys2Proof.Machine

/-! ### Shared forms -/

/-- `Not_w` (R295): every bit inverted, no flag written. -/
def complement {w : Nat} (a : BitVec w) (fe : FlagEngine) : BitVec w × FlagEngine := (~~~a, fe)

/-- `TEST r/m8, r8` (R294). -/
def testRmR8 (m : ModRM) (s : State) : Res Unit :=
  (readEA8 m s).bind fun a s => (readRegField8 m s).bind fun b s => .done (s.setFlags (testFlags a b s.fe))

/-- `TEST r/m16, r16` (R294). -/
def testRmR16 (m : ModRM) (s : State) : Res Unit :=
  (readEA16 m s).bind fun a s => (readRegField16 m s).bind fun b s => .done (s.setFlags (testFlags a b s.fe))

/-- `TEST AL, imm8` (R294). -/
def testAlImm (imm : Byte) (s : State) : Res Unit := .done (s.setFlags (testFlags (s.reg8 .al) imm s.fe))

/-- `TEST AX, imm16` (R294). -/
def testAxImm (imm : Word) (s : State) : Res Unit := .done (s.setFlags (testFlags s.regs.ax imm s.fe))

/-- `TEST r/m8, imm8` (R294). -/
def testRmImm8 (m : ModRM) (imm : Byte) (s : State) : Res Unit :=
  (readEA8 m s).bind fun a s => .done (s.setFlags (testFlags a imm s.fe))

/-- `TEST r/m16, imm16` (R294). -/
def testRmImm16 (m : ModRM) (imm : Word) (s : State) : Res Unit :=
  (readEA16 m s).bind fun a s => .done (s.setFlags (testFlags a imm s.fe))

/-! ### Instructions -/

/-- 84: TEST r/m8, r8 (R294, R293). -/
def execTestRm8R8 (rm : Rm Reg8) (r : Reg8) (s : State) : Out := (testRmR8 (modrm8 r.num rm) s).outcome

/-- 85: TEST r/m16, r16 (R294, R293). -/
def execTestRm16R16 (rm : Rm Reg16) (r : Reg16) (s : State) : Out := (testRmR16 (modrm16 r.num rm) s).outcome

/-- A8: TEST AL, imm8 (R294, R293). -/
def execTestAlImm8 (imm : Byte) (s : State) : Out := (testAlImm imm s).outcome

/-- A9: TEST AX, imm16 (R294, R293). -/
def execTestAxImm16 (imm : Word) (s : State) : Out := (testAxImm imm s).outcome

/-- F6 /0: TEST r/m8, imm8 (R294, R293). -/
def execTestRm8Imm8 (rm : Rm Reg8) (imm : Byte) (s : State) : Out := (testRmImm8 (modrm8 0 rm) imm s).outcome

/-- F6 /2: NOT r/m8 (R295). -/
def execNotRm8 (rm : Rm Reg8) (s : State) : Out := (unaryRm8 complement (modrm8 2 rm) s).outcome

/-- F7 /0: TEST r/m16, imm16 (R294, R293). -/
def execTestRm16Imm16 (rm : Rm Reg16) (imm : Word) (s : State) : Out := (testRmImm16 (modrm16 0 rm) imm s).outcome

/-- F7 /2: NOT r/m16 (R295). -/
def execNotRm16 (rm : Rm Reg16) (s : State) : Out := (unaryRm16 complement (modrm16 2 rm) s).outcome

end Sys2Proof.Machine
end

