-- ==== Sys2Proof/Machine/Moves.lean ====
section
/-! DEFINITION. MOV, LEA, LDS, LES, XCHG, XLAT, CBW, CWD, IN and OUT in all their forms (spec 46). -/

namespace Sys2Proof.Machine

/-! ### Shared forms -/

/-- `MOV r/m8, r8` (R440). -/
def movRmR8 (m : ModRM) (s : State) : Res Unit := (readRegField8 m s).bind fun v s => writeEA8 m v s

/-- `MOV r/m16, r16` (R440). -/
def movRmR16 (m : ModRM) (s : State) : Res Unit := (readRegField16 m s).bind fun v s => writeEA16 m v s

/-- `MOV r8, r/m8` (R441). -/
def movRRm8 (m : ModRM) (s : State) : Res Unit := (readEA8 m s).bind fun v s => writeRegField8 m v s

/-- `MOV r16, r/m16` (R441). -/
def movRRm16 (m : ModRM) (s : State) : Res Unit := (readEA16 m s).bind fun v s => writeRegField16 m v s

/-- `MOV sreg, r/m16` (R447). -/
def movSRegRm (r : SReg) (m : ModRM) (s : State) : Res Unit := (readEA16 m s).bind fun v s => writeSReg r v s

/-- LEA (R450): the offset alone; no memory is read. -/
def loadAddress (m : ModRM) (s : State) : Res Unit := (eaOffset m s).bind fun o s => writeRegField16 m o s

/-- LDS and LES (R451, R452): both words are read before anything is written; the register is written first (log 24). -/
def loadPointer (r : SReg) (m : ModRM) (s : State) : Res Unit :=
  (eaOffset m s).bind fun _ s =>
  (readEAWordAt m 0 s).bind fun off s =>
  (readEAWordAt m 2 s).bind fun sel s =>
  (writeRegField16 m off s).bind fun _ s => writeSReg r sel s

/-- `XCHG r/m8, r8` (R453): both reads, then the write of r/m, then that of the register. -/
def exchange8 (m : ModRM) (s : State) : Res Unit :=
  (readEA8 m s).bind fun a s =>
  (readRegField8 m s).bind fun b s =>
  (writeEA8 m b s).bind fun _ s => writeRegField8 m a s

/-- `XCHG r/m16, r16` (R453). -/
def exchange16 (m : ModRM) (s : State) : Res Unit :=
  (readEA16 m s).bind fun a s =>
  (readRegField16 m s).bind fun b s =>
  (writeEA16 m b s).bind fun _ s => writeRegField16 m a s

/-- `XCHG AX, r16` (R454). -/
def exchangeAx (r : Reg16) (s : State) : State := (s.setReg16 .ax (s.reg16 r)).setReg16 r s.regs.ax

/-- XLAT (R455). -/
def translate (s : State) : Res Unit :=
  (memRead8 (s.segmentOr .ds) (s.regs.bx + zext8 (s.reg8 .al)) s).bind fun v s => .done (s.setReg8 .al v)

/-- IN to AL (R460, R461). -/
def in8 (port : Word) (s : State) : Res Unit := (portRead8 port s).bind fun v s => .done (s.setReg8 .al v)

/-- IN to AX (R460, R461). -/
def in16 (port : Word) (s : State) : Res Unit := (portRead16 port s).bind fun v s => .done (s.setReg16 .ax v)

/-! ### Instructions -/

/-- 86: XCHG r/m8, r8 (R453). -/
def execXchgRm8R8 (rm : Rm Reg8) (r : Reg8) (s : State) : Out := (exchange8 (modrm8 r.num rm) s).outcome

/-- 87: XCHG r/m16, r16 (R453). -/
def execXchgRm16R16 (rm : Rm Reg16) (r : Reg16) (s : State) : Out := (exchange16 (modrm16 r.num rm) s).outcome

/-- 88: MOV r/m8, r8 (R440). -/
def execMovRm8R8 (rm : Rm Reg8) (r : Reg8) (s : State) : Out := (movRmR8 (modrm8 r.num rm) s).outcome

/-- 89: MOV r/m16, r16 (R440). -/
def execMovRm16R16 (rm : Rm Reg16) (r : Reg16) (s : State) : Out := (movRmR16 (modrm16 r.num rm) s).outcome

/-- 8A: MOV r8, r/m8 (R441). -/
def execMovR8Rm8 (r : Reg8) (rm : Rm Reg8) (s : State) : Out := (movRRm8 (modrm8 r.num rm) s).outcome

/-- 8B: MOV r16, r/m16 (R441). -/
def execMovR16Rm16 (r : Reg16) (rm : Rm Reg16) (s : State) : Out := (movRRm16 (modrm16 r.num rm) s).outcome

/-- 8C /0: MOV r/m16, ES (R446). -/
def execMovRm16Es (rm : Rm Reg16) (s : State) : Out := (writeEA16 (modrm16 0 rm) (s.sreg .es) s).outcome

/-- 8C /1: MOV r/m16, CS (R446). -/
def execMovRm16Cs (rm : Rm Reg16) (s : State) : Out := (writeEA16 (modrm16 1 rm) (s.sreg .cs) s).outcome

/-- 8C /2: MOV r/m16, SS (R446). -/
def execMovRm16Ss (rm : Rm Reg16) (s : State) : Out := (writeEA16 (modrm16 2 rm) (s.sreg .ss) s).outcome

/-- 8C /3: MOV r/m16, DS (R446). -/
def execMovRm16Ds (rm : Rm Reg16) (s : State) : Out := (writeEA16 (modrm16 3 rm) (s.sreg .ds) s).outcome

/-- 8D: LEA r16, m (R450). -/
def execLeaR16M (r : Reg16) (m : MemEA) (s : State) : Out := (loadAddress (modrmMem r.num m) s).outcome

/-- 8E /0: MOV ES, r/m16 (R447). -/
def execMovEsRm16 (rm : Rm Reg16) (s : State) : Out := (movSRegRm .es (modrm16 0 rm) s).outcome

/-- 8E /1: MOV CS, r/m16 (R447). -/
def execMovCsRm16 (rm : Rm Reg16) (s : State) : Out := (movSRegRm .cs (modrm16 1 rm) s).outcome

/-- 8E /2: MOV SS, r/m16 (R447). -/
def execMovSsRm16 (rm : Rm Reg16) (s : State) : Out := (movSRegRm .ss (modrm16 2 rm) s).outcome

/-- 8E /3: MOV DS, r/m16 (R447). -/
def execMovDsRm16 (rm : Rm Reg16) (s : State) : Out := (movSRegRm .ds (modrm16 3 rm) s).outcome

/-- A0: MOV AL, moffs8 (R444). -/
def execMovAlMoffs8 (addr : Word) (s : State) : Out :=
  ((moffsRead8 addr s).bind fun v s => .done (s.setReg8 .al v)).outcome

/-- A1: MOV AX, moffs16 (R444). -/
def execMovAxMoffs16 (addr : Word) (s : State) : Out :=
  ((moffsRead16 addr s).bind fun v s => .done (s.setReg16 .ax v)).outcome

/-- A2: MOV moffs8, AL (R445). -/
def execMovMoffs8Al (addr : Word) (s : State) : Out := (moffsWrite8 addr (s.reg8 .al) s).outcome

/-- A3: MOV moffs16, AX (R445). -/
def execMovMoffs16Ax (addr : Word) (s : State) : Out := (moffsWrite16 addr s.regs.ax s).outcome

/-- B0: MOV r8, imm8 (R443). -/
def execMovR8Imm8 (r : Reg8) (imm : Byte) (s : State) : Out := .next (s.setReg8 r imm)

/-- B8: MOV r16, imm16 (R443). -/
def execMovR16Imm16 (r : Reg16) (imm : Word) (s : State) : Out := .next (s.setReg16 r imm)

/-- C4: LES r16, m16:16 (R452). -/
def execLesR16M (r : Reg16) (m : MemEA) (s : State) : Out := (loadPointer .es (modrmMem r.num m) s).outcome

/-- C5: LDS r16, m16:16 (R451). -/
def execLdsR16M (r : Reg16) (m : MemEA) (s : State) : Out := (loadPointer .ds (modrmMem r.num m) s).outcome

/-- C6 /0: MOV r/m8, imm8 (R442). -/
def execMovRm8Imm8 (rm : Rm Reg8) (imm : Byte) (s : State) : Out := (writeEA8 (modrm8 0 rm) imm s).outcome

/-- C7 /0: MOV r/m16, imm16 (R442). -/
def execMovRm16Imm16 (rm : Rm Reg16) (imm : Word) (s : State) : Out := (writeEA16 (modrm16 0 rm) imm s).outcome

/-- E4: IN AL, imm8 (R460). -/
def execInAlImm8 (imm : Byte) (s : State) : Out := (in8 (zext8 imm) s).outcome

/-- E5: IN AX, imm8 (R460). -/
def execInAxImm8 (imm : Byte) (s : State) : Out := (in16 (zext8 imm) s).outcome

/-- E6: OUT imm8, AL (R462). -/
def execOutImm8Al (imm : Byte) (s : State) : Out := (portWrite8 (zext8 imm) (s.reg8 .al) s).outcome

/-- E7: OUT imm8, AX (R462). -/
def execOutImm8Ax (imm : Byte) (s : State) : Out := (portWrite16 (zext8 imm) s.regs.ax s).outcome

/-- 91: XCHG AX, CX (R454). -/
def execXchgAxCx (s : State) : Out := .next (exchangeAx .cx s)

/-- 92: XCHG AX, DX (R454). -/
def execXchgAxDx (s : State) : Out := .next (exchangeAx .dx s)

/-- 93: XCHG AX, BX (R454). -/
def execXchgAxBx (s : State) : Out := .next (exchangeAx .bx s)

/-- 94: XCHG AX, SP (R454). -/
def execXchgAxSp (s : State) : Out := .next (exchangeAx .sp s)

/-- 95: XCHG AX, BP (R454). -/
def execXchgAxBp (s : State) : Out := .next (exchangeAx .bp s)

/-- 96: XCHG AX, SI (R454). -/
def execXchgAxSi (s : State) : Out := .next (exchangeAx .si s)

/-- 97: XCHG AX, DI (R454). -/
def execXchgAxDi (s : State) : Out := .next (exchangeAx .di s)

/-- 98: CBW (R456). -/
def execCbw (s : State) : Out := .next (s.setReg16 .ax (sext8 (s.reg8 .al)))

/-- 99: CWD (R457). -/
def execCwd (s : State) : Out := .next (s.setReg16 .dx (if s.regs.ax.msb then 0xFFFF else 0))

/-- D7: XLAT (R455). -/
def execXlat (s : State) : Out := (translate s).outcome

/-- EC: IN AL, DX (R461). -/
def execInAlDx (s : State) : Out := (in8 s.regs.dx s).outcome

/-- ED: IN AX, DX (R461). -/
def execInAxDx (s : State) : Out := (in16 s.regs.dx s).outcome

/-- EE: OUT DX, AL (R463). -/
def execOutDxAl (s : State) : Out := (portWrite8 s.regs.dx (s.reg8 .al) s).outcome

/-- EF: OUT DX, AX (R463). -/
def execOutDxAx (s : State) : Out := (portWrite16 s.regs.dx s.regs.ax s).outcome

end Sys2Proof.Machine
end

