-- ==== Sys2Proof/Machine/MulDiv.lean ====
section
/-! DEFINITION. MUL, IMUL, DIV and IDIV in all their forms (spec 42 R313 to R315, R325). -/

namespace Sys2Proof.Machine

/-! ### Shared forms -/

/-- A multiplication of AL by `r/m8`: AL the low half, AH the high half (R313, R314). -/
def mulAcc8 (f : Byte → Byte → FlagEngine → Byte × Byte × FlagEngine) (m : ModRM) (s : State) : Res Unit :=
  (readEA8 m s).bind fun v s =>
    let (lo, hi, fe) := f (s.reg8 .al) v s.fe
    .done ((s.setFlags fe).setReg16 .ax (word16 hi lo))

/-- A multiplication of AX by `r/m16`: AX the low half, DX the high half (R313, R314). -/
def mulAcc16 (f : Word → Word → FlagEngine → Word × Word × FlagEngine) (m : ModRM) (s : State) : Res Unit :=
  (readEA16 m s).bind fun v s =>
    let (lo, hi, fe) := f s.regs.ax v s.fe
    .done (((s.setFlags fe).setReg16 .ax lo).setReg16 .dx hi)

/-- `IMUL r16, r/m16, imm` (R315): the high half is discarded. -/
def imulImm (m : ModRM) (imm : Word) (s : State) : Res Unit :=
  (readEA16 m s).bind fun v s =>
    let (lo, _, fe) := imul v imm s.fe
    writeRegField16 m lo (s.setFlags fe)

/-- `Div8` on AX and a byte (R320, R325). -/
def unsignedQuotient8 (n : Word) (d : Byte) : Option (Byte × Byte) := udivide 8 n.toNat d.toNat

/-- `IDiv8` on AX and a byte (R321, R325). -/
def signedQuotient8 (n : Word) (d : Byte) : Option (Byte × Byte) := sdivide 8 n.toInt d.toInt

/-- `Div16` on DX:AX and a word (R320, R325). -/
def unsignedQuotient16 (n : BitVec 32) (d : Word) : Option (Word × Word) := udivide 16 n.toNat d.toNat

/-- `IDiv16` on DX:AX and a word (R321, R325). -/
def signedQuotient16 (n : BitVec 32) (d : Word) : Option (Word × Word) := sdivide 16 n.toInt d.toInt

/-- A division of AX by `r/m8`: AL the quotient, AH the remainder, or DivideError with nothing written (R325). -/
def divAcc8 (f : Word → Byte → Option (Byte × Byte)) (m : ModRM) (s : State) : Res Unit :=
  (readEA8 m s).bind fun d s =>
    match f s.regs.ax d with
    | none => .raise .divideError s
    | some (q, r) => .done ((s.setFlags (divFlags s.regs.ax.toNat d q s.fe)).setReg16 .ax (word16 r q))

/-- A division of DX:AX by `r/m16`: AX the quotient, DX the remainder, or DivideError with nothing written (R325). -/
def divAcc16 (f : BitVec 32 → Word → Option (Word × Word)) (m : ModRM) (s : State) : Res Unit :=
  (readEA16 m s).bind fun d s =>
    match f (s.regs.dx ++ s.regs.ax) d with
    | none => .raise .divideError s
    | some (q, r) => .done (((s.setFlags (divFlags (s.regs.dx ++ s.regs.ax).toNat d q s.fe)).setReg16 .ax q).setReg16 .dx r)

/-! ### Instructions -/

/-- 69: IMUL r16, r/m16, imm16 (R315, R312). -/
def execImulR16Rm16Imm16 (r : Reg16) (rm : Rm Reg16) (imm : Word) (s : State) : Out :=
  (imulImm (modrm16 r.num rm) imm s).outcome

/-- 6B: IMUL r16, r/m16, imm8s (R315, R312). -/
def execImulR16Rm16Imm8s (r : Reg16) (rm : Rm Reg16) (imm : Byte) (s : State) : Out :=
  (imulImm (modrm16 r.num rm) (sext8 imm) s).outcome

/-- F6 /4: MUL r/m8 (R313, R311). -/
def execMulRm8 (rm : Rm Reg8) (s : State) : Out := (mulAcc8 mul (modrm8 4 rm) s).outcome

/-- F6 /5: IMUL r/m8 (R314, R312). -/
def execImulRm8 (rm : Rm Reg8) (s : State) : Out := (mulAcc8 imul (modrm8 5 rm) s).outcome

/-- F6 /6: DIV r/m8 (R325, R320). -/
def execDivRm8 (rm : Rm Reg8) (s : State) : Out := (divAcc8 unsignedQuotient8 (modrm8 6 rm) s).outcome

/-- F6 /7: IDIV r/m8 (R325, R321). -/
def execIdivRm8 (rm : Rm Reg8) (s : State) : Out := (divAcc8 signedQuotient8 (modrm8 7 rm) s).outcome

/-- F7 /4: MUL r/m16 (R313, R311). -/
def execMulRm16 (rm : Rm Reg16) (s : State) : Out := (mulAcc16 mul (modrm16 4 rm) s).outcome

/-- F7 /5: IMUL r/m16 (R314, R312). -/
def execImulRm16 (rm : Rm Reg16) (s : State) : Out := (mulAcc16 imul (modrm16 5 rm) s).outcome

/-- F7 /6: DIV r/m16 (R325, R320). -/
def execDivRm16 (rm : Rm Reg16) (s : State) : Out := (divAcc16 unsignedQuotient16 (modrm16 6 rm) s).outcome

/-- F7 /7: IDIV r/m16 (R325, R321). -/
def execIdivRm16 (rm : Rm Reg16) (s : State) : Out := (divAcc16 signedQuotient16 (modrm16 7 rm) s).outcome

end Sys2Proof.Machine
end

