-- ==== Sys2Proof/Machine/Shift.lean ====
section
/-! DEFINITION. ROL, ROR, RCL, RCR, SHL, SHR and SAR in all their forms (spec 43 R370). -/

namespace Sys2Proof.Machine

/-! ### Shared forms -/

/-- A shift or rotate of `r/m8` by a raw count: COUNT_MASK applied, the operand read and always written back, then the flags (R370,
46 R436). -/
def shiftRm8 (op : ShiftOp) (m : ModRM) (count : Byte) (s : State) : Res Unit :=
  (readEA8 m s).bind fun d s =>
    let (r, fe) := op.apply s.params d (count &&& s.params.countMask).toNat s.fe
    (writeEA8 m r s).bind fun _ s => .done (s.setFlags fe)

/-- A shift or rotate of `r/m16` by a raw count (R370). -/
def shiftRm16 (op : ShiftOp) (m : ModRM) (count : Byte) (s : State) : Res Unit :=
  (readEA16 m s).bind fun d s =>
    let (r, fe) := op.apply s.params d (count &&& s.params.countMask).toNat s.fe
    (writeEA16 m r s).bind fun _ s => .done (s.setFlags fe)

/-! ### Instructions -/

/-- C0 /0: ROL r/m8, imm8 (R370, R344). -/
def execRolRm8Imm8 (rm : Rm Reg8) (imm : Byte) (s : State) : Out := (shiftRm8 .rol (modrm8 0 rm) imm s).outcome

/-- C0 /1: ROR r/m8, imm8 (R370, R345). -/
def execRorRm8Imm8 (rm : Rm Reg8) (imm : Byte) (s : State) : Out := (shiftRm8 .ror (modrm8 1 rm) imm s).outcome

/-- C0 /2: RCL r/m8, imm8 (R370, R346). -/
def execRclRm8Imm8 (rm : Rm Reg8) (imm : Byte) (s : State) : Out := (shiftRm8 .rcl (modrm8 2 rm) imm s).outcome

/-- C0 /3: RCR r/m8, imm8 (R370, R347). -/
def execRcrRm8Imm8 (rm : Rm Reg8) (imm : Byte) (s : State) : Out := (shiftRm8 .rcr (modrm8 3 rm) imm s).outcome

/-- C0 /4: SHL r/m8, imm8 (R370, R361). -/
def execShlRm8Imm8 (rm : Rm Reg8) (imm : Byte) (s : State) : Out := (shiftRm8 .shl (modrm8 4 rm) imm s).outcome

/-- C0 /5: SHR r/m8, imm8 (R370, R362). -/
def execShrRm8Imm8 (rm : Rm Reg8) (imm : Byte) (s : State) : Out := (shiftRm8 .shr (modrm8 5 rm) imm s).outcome

/-- C0 /7: SAR r/m8, imm8 (R370, R363). -/
def execSarRm8Imm8 (rm : Rm Reg8) (imm : Byte) (s : State) : Out := (shiftRm8 .sar (modrm8 7 rm) imm s).outcome

/-- C1 /0: ROL r/m16, imm8 (R370, R344). -/
def execRolRm16Imm8 (rm : Rm Reg16) (imm : Byte) (s : State) : Out := (shiftRm16 .rol (modrm16 0 rm) imm s).outcome

/-- C1 /1: ROR r/m16, imm8 (R370, R345). -/
def execRorRm16Imm8 (rm : Rm Reg16) (imm : Byte) (s : State) : Out := (shiftRm16 .ror (modrm16 1 rm) imm s).outcome

/-- C1 /2: RCL r/m16, imm8 (R370, R346). -/
def execRclRm16Imm8 (rm : Rm Reg16) (imm : Byte) (s : State) : Out := (shiftRm16 .rcl (modrm16 2 rm) imm s).outcome

/-- C1 /3: RCR r/m16, imm8 (R370, R347). -/
def execRcrRm16Imm8 (rm : Rm Reg16) (imm : Byte) (s : State) : Out := (shiftRm16 .rcr (modrm16 3 rm) imm s).outcome

/-- C1 /4: SHL r/m16, imm8 (R370, R361). -/
def execShlRm16Imm8 (rm : Rm Reg16) (imm : Byte) (s : State) : Out := (shiftRm16 .shl (modrm16 4 rm) imm s).outcome

/-- C1 /5: SHR r/m16, imm8 (R370, R362). -/
def execShrRm16Imm8 (rm : Rm Reg16) (imm : Byte) (s : State) : Out := (shiftRm16 .shr (modrm16 5 rm) imm s).outcome

/-- C1 /7: SAR r/m16, imm8 (R370, R363). -/
def execSarRm16Imm8 (rm : Rm Reg16) (imm : Byte) (s : State) : Out := (shiftRm16 .sar (modrm16 7 rm) imm s).outcome

/-- D0 /0: ROL r/m8, 1 (R370, R344). -/
def execRolRm8By1 (rm : Rm Reg8) (s : State) : Out := (shiftRm8 .rol (modrm8 0 rm) 1 s).outcome

/-- D0 /1: ROR r/m8, 1 (R370, R345). -/
def execRorRm8By1 (rm : Rm Reg8) (s : State) : Out := (shiftRm8 .ror (modrm8 1 rm) 1 s).outcome

/-- D0 /2: RCL r/m8, 1 (R370, R346). -/
def execRclRm8By1 (rm : Rm Reg8) (s : State) : Out := (shiftRm8 .rcl (modrm8 2 rm) 1 s).outcome

/-- D0 /3: RCR r/m8, 1 (R370, R347). -/
def execRcrRm8By1 (rm : Rm Reg8) (s : State) : Out := (shiftRm8 .rcr (modrm8 3 rm) 1 s).outcome

/-- D0 /4: SHL r/m8, 1 (R370, R361). -/
def execShlRm8By1 (rm : Rm Reg8) (s : State) : Out := (shiftRm8 .shl (modrm8 4 rm) 1 s).outcome

/-- D0 /5: SHR r/m8, 1 (R370, R362). -/
def execShrRm8By1 (rm : Rm Reg8) (s : State) : Out := (shiftRm8 .shr (modrm8 5 rm) 1 s).outcome

/-- D0 /7: SAR r/m8, 1 (R370, R363). -/
def execSarRm8By1 (rm : Rm Reg8) (s : State) : Out := (shiftRm8 .sar (modrm8 7 rm) 1 s).outcome

/-- D1 /0: ROL r/m16, 1 (R370, R344). -/
def execRolRm16By1 (rm : Rm Reg16) (s : State) : Out := (shiftRm16 .rol (modrm16 0 rm) 1 s).outcome

/-- D1 /1: ROR r/m16, 1 (R370, R345). -/
def execRorRm16By1 (rm : Rm Reg16) (s : State) : Out := (shiftRm16 .ror (modrm16 1 rm) 1 s).outcome

/-- D1 /2: RCL r/m16, 1 (R370, R346). -/
def execRclRm16By1 (rm : Rm Reg16) (s : State) : Out := (shiftRm16 .rcl (modrm16 2 rm) 1 s).outcome

/-- D1 /3: RCR r/m16, 1 (R370, R347). -/
def execRcrRm16By1 (rm : Rm Reg16) (s : State) : Out := (shiftRm16 .rcr (modrm16 3 rm) 1 s).outcome

/-- D1 /4: SHL r/m16, 1 (R370, R361). -/
def execShlRm16By1 (rm : Rm Reg16) (s : State) : Out := (shiftRm16 .shl (modrm16 4 rm) 1 s).outcome

/-- D1 /5: SHR r/m16, 1 (R370, R362). -/
def execShrRm16By1 (rm : Rm Reg16) (s : State) : Out := (shiftRm16 .shr (modrm16 5 rm) 1 s).outcome

/-- D1 /7: SAR r/m16, 1 (R370, R363). -/
def execSarRm16By1 (rm : Rm Reg16) (s : State) : Out := (shiftRm16 .sar (modrm16 7 rm) 1 s).outcome

/-- D2 /0: ROL r/m8, CL (R370, R344). -/
def execRolRm8Cl (rm : Rm Reg8) (s : State) : Out := (shiftRm8 .rol (modrm8 0 rm) (s.reg8 .cl) s).outcome

/-- D2 /1: ROR r/m8, CL (R370, R345). -/
def execRorRm8Cl (rm : Rm Reg8) (s : State) : Out := (shiftRm8 .ror (modrm8 1 rm) (s.reg8 .cl) s).outcome

/-- D2 /2: RCL r/m8, CL (R370, R346). -/
def execRclRm8Cl (rm : Rm Reg8) (s : State) : Out := (shiftRm8 .rcl (modrm8 2 rm) (s.reg8 .cl) s).outcome

/-- D2 /3: RCR r/m8, CL (R370, R347). -/
def execRcrRm8Cl (rm : Rm Reg8) (s : State) : Out := (shiftRm8 .rcr (modrm8 3 rm) (s.reg8 .cl) s).outcome

/-- D2 /4: SHL r/m8, CL (R370, R361). -/
def execShlRm8Cl (rm : Rm Reg8) (s : State) : Out := (shiftRm8 .shl (modrm8 4 rm) (s.reg8 .cl) s).outcome

/-- D2 /5: SHR r/m8, CL (R370, R362). -/
def execShrRm8Cl (rm : Rm Reg8) (s : State) : Out := (shiftRm8 .shr (modrm8 5 rm) (s.reg8 .cl) s).outcome

/-- D2 /7: SAR r/m8, CL (R370, R363). -/
def execSarRm8Cl (rm : Rm Reg8) (s : State) : Out := (shiftRm8 .sar (modrm8 7 rm) (s.reg8 .cl) s).outcome

/-- D3 /0: ROL r/m16, CL (R370, R344). -/
def execRolRm16Cl (rm : Rm Reg16) (s : State) : Out := (shiftRm16 .rol (modrm16 0 rm) (s.reg8 .cl) s).outcome

/-- D3 /1: ROR r/m16, CL (R370, R345). -/
def execRorRm16Cl (rm : Rm Reg16) (s : State) : Out := (shiftRm16 .ror (modrm16 1 rm) (s.reg8 .cl) s).outcome

/-- D3 /2: RCL r/m16, CL (R370, R346). -/
def execRclRm16Cl (rm : Rm Reg16) (s : State) : Out := (shiftRm16 .rcl (modrm16 2 rm) (s.reg8 .cl) s).outcome

/-- D3 /3: RCR r/m16, CL (R370, R347). -/
def execRcrRm16Cl (rm : Rm Reg16) (s : State) : Out := (shiftRm16 .rcr (modrm16 3 rm) (s.reg8 .cl) s).outcome

/-- D3 /4: SHL r/m16, CL (R370, R361). -/
def execShlRm16Cl (rm : Rm Reg16) (s : State) : Out := (shiftRm16 .shl (modrm16 4 rm) (s.reg8 .cl) s).outcome

/-- D3 /5: SHR r/m16, CL (R370, R362). -/
def execShrRm16Cl (rm : Rm Reg16) (s : State) : Out := (shiftRm16 .shr (modrm16 5 rm) (s.reg8 .cl) s).outcome

/-- D3 /7: SAR r/m16, CL (R370, R363). -/
def execSarRm16Cl (rm : Rm Reg16) (s : State) : Out := (shiftRm16 .sar (modrm16 7 rm) (s.reg8 .cl) s).outcome

end Sys2Proof.Machine
end

