-- ==== Sys2Proof/Machine/Stack.lean ====
section
/-! DEFINITION. PUSH, POP, PUSHA, POPA, ENTER and LEAVE (spec 47). -/

namespace Sys2Proof.Machine

/-! ### Shared forms -/

/-- The value `PUSH r16` pushes (R482): for SP it is parameter PUSH_SP_NEW's choice. -/
def pushedValue (r : Reg16) (s : State) : Word :=
  if r = .sp ∧ s.params.pushSpNew = true then s.regs.sp - 2 else s.reg16 r

/-- The value `PUSH r/m16` pushes once its operand is read (R484): the register form of SP is as R482. -/
def pushedEA (v : Word) (s : State) : Word :=
  if s.doc.isMem then v else pushedValue (Reg16.ofNum s.doc.rm) s

/-- `PUSH r/m16` (R484): the operand is read before SP changes. -/
def pushRm (m : ModRM) (s : State) : Res Unit := (readEA16 m s).bind fun v s => push16 (pushedEA v s) s

/-- `POP r16` (R488): for SP the popped value is the final one. -/
def popReg (r : Reg16) (s : State) : Res Unit := (pop16 s).bind fun v s => .done (s.setReg16 r v)

/-- `POP r/m16` (R487): the address is decoded before the pop. -/
def popRm (m : ModRM) (s : State) : Res Unit := (pop16 (decodeModRM m s)).bind fun v s => writeEA16 m v s

/-- `POP sreg` (R489): a refused value leaves the register as it was, SP moved (log 24). -/
def popSReg (r : SReg) (s : State) : Res Unit := (pop16 s).bind fun v s => writeSReg r v s

/-- Words pushed one after another; a fault leaves the earlier pushes done (R490, R651). -/
def pushList : List Word → State → Res Unit
  | [], s => .done s
  | v :: t, s => (push16 v s).bind fun _ s => pushList t s

/-- PUSHA (R490). -/
def pushAll (s : State) : Res Unit :=
  pushList [s.regs.ax, s.regs.cx, s.regs.dx, s.regs.bx, s.regs.sp, s.regs.bp, s.regs.si, s.regs.di] s

/-- POPA (R491): the SP image is read and discarded. -/
def popAll (s : State) : Res Unit :=
  (popReg .di s).bind fun _ s =>
  (popReg .si s).bind fun _ s =>
  (popReg .bp s).bind fun _ s =>
  (pop16 s).bind fun _ s =>
  (popReg .bx s).bind fun _ s =>
  (popReg .dx s).bind fun _ s =>
  (popReg .cx s).bind fun _ s => popReg .ax s

/-- The frame pointers ENTER copies: `n` times, BP down by 2 and the word at SS:BP pushed (R492). -/
def copyFrames : Nat → State → Res Unit
  | 0, s => .done s
  | n + 1, s =>
    let s := s.setReg16 .bp (s.regs.bp - 2)
    (memRead16 s.sregs.ss s.regs.bp s).bind fun v s => (push16 v s).bind fun _ s => copyFrames n s

/-- The display ENTER builds for a level above 0 (R492). -/
def enterDisplay (frame : Word) (level : Nat) (s : State) : Res Unit :=
  if level = 0 then .done s else (copyFrames (level - 1) s).bind fun _ s => push16 frame s

/-- ENTER (R492). -/
def enterFrame (size : Word) (level : Byte) (s : State) : Res Unit :=
  (push16 s.regs.bp s).bind fun _ s =>
    let frame := s.regs.sp
    (enterDisplay frame (level.toNat % 32) s).bind fun _ s =>
      let s := s.setReg16 .bp frame
      .done (s.setSP (s.regs.sp - size))

/-! ### Instructions -/

/-- 50: PUSH r16 (R482). -/
def execPushR16 (r : Reg16) (s : State) : Out := (push16 (pushedValue r s) s).outcome

/-- 58: POP r16 (R488). -/
def execPopR16 (r : Reg16) (s : State) : Out := (popReg r s).outcome

/-- 68: PUSH imm16 (R485). -/
def execPushImm16 (imm : Word) (s : State) : Out := (push16 imm s).outcome

/-- 6A: PUSH imm8s (R486). -/
def execPushImm8s (imm : Byte) (s : State) : Out := (push16 (sext8 imm) s).outcome

/-- 8F /0: POP r/m16 (R487). -/
def execPopRm16 (rm : Rm Reg16) (s : State) : Out := (popRm (modrm16 0 rm) s).outcome

/-- C8: ENTER imm16, imm8 (R492). -/
def execEnterImm16Imm8 (size : Word) (level : Byte) (s : State) : Out := (enterFrame size level s).outcome

/-- FF /6: PUSH r/m16 (R484). -/
def execPushRm16 (rm : Rm Reg16) (s : State) : Out := (pushRm (modrm16 6 rm) s).outcome

/-- 06: PUSH ES (R483). -/
def execPushEs (s : State) : Out := (push16 (s.sreg .es) s).outcome

/-- 0E: PUSH CS (R483). -/
def execPushCs (s : State) : Out := (push16 (s.sreg .cs) s).outcome

/-- 16: PUSH SS (R483). -/
def execPushSs (s : State) : Out := (push16 (s.sreg .ss) s).outcome

/-- 1E: PUSH DS (R483). -/
def execPushDs (s : State) : Out := (push16 (s.sreg .ds) s).outcome

/-- 07: POP ES (R489). -/
def execPopEs (s : State) : Out := (popSReg .es s).outcome

/-- 17: POP SS (R489). -/
def execPopSs (s : State) : Out := (popSReg .ss s).outcome

/-- 1F: POP DS (R489). -/
def execPopDs (s : State) : Out := (popSReg .ds s).outcome

/-- 60: PUSHA (R490). -/
def execPusha (s : State) : Out := (pushAll s).outcome

/-- 61: POPA (R491). -/
def execPopa (s : State) : Out := (popAll s).outcome

/-- C9: LEAVE (R493). -/
def execLeave (s : State) : Out := (popReg .bp (s.setSP s.regs.bp)).outcome

end Sys2Proof.Machine
end

