-- ==== Sys2Proof/Machine/Strings.lean ====
section
/-! DEFINITION. MOVS, CMPS, SCAS, LODS, STOS, INS and OUTS with their repeat prefixes (spec 49 sections 1 to 3). -/

namespace Sys2Proof.Machine

/-! ### Shared forms -/

/-- The segment of a string source: DS or the override (R560, R563). -/
def State.sourceSeg (s : State) : Word := s.segmentOr .ds

/-- A pointer after an element of `n` bytes, by the direction flag of that moment (R562). -/
def advanced (s : State) (p n : Word) : Word := if s.fe.df then p - n else p + n

/-- SI moved past an element (R562). -/
def advanceSI (n : Word) (s : State) : State := s.setReg16 .si (advanced s s.regs.si n)

/-- DI moved past an element (R562). -/
def advanceDI (n : Word) (s : State) : State := s.setReg16 .di (advanced s s.regs.di n)

/-- One MOVSB (R564). -/
def movs8 (s : State) : Res Unit :=
  (memRead8 s.sourceSeg s.regs.si s).bind fun v s =>
  (memWrite8 s.sregs.es s.regs.di v s).bind fun _ s => .done (advanceDI 1 (advanceSI 1 s))

/-- One MOVSW (R564). -/
def movs16 (s : State) : Res Unit :=
  (memRead16 s.sourceSeg s.regs.si s).bind fun v s =>
  (memWrite16 s.sregs.es s.regs.di v s).bind fun _ s => .done (advanceDI 2 (advanceSI 2 s))

/-- One CMPSB (R565): the source element is the minuend. -/
def cmps8 (s : State) : Res Unit :=
  (memRead8 s.sourceSeg s.regs.si s).bind fun a s =>
  (memRead8 s.sregs.es s.regs.di s).bind fun b s =>
    .done (advanceDI 1 (advanceSI 1 (s.setFlags (cmpFlags a b s.fe))))

/-- One CMPSW (R565). -/
def cmps16 (s : State) : Res Unit :=
  (memRead16 s.sourceSeg s.regs.si s).bind fun a s =>
  (memRead16 s.sregs.es s.regs.di s).bind fun b s =>
    .done (advanceDI 2 (advanceSI 2 (s.setFlags (cmpFlags a b s.fe))))

/-- One SCASB (R566). -/
def scas8 (s : State) : Res Unit :=
  (memRead8 s.sregs.es s.regs.di s).bind fun b s =>
    .done (advanceDI 1 (s.setFlags (cmpFlags (s.reg8 .al) b s.fe)))

/-- One SCASW (R566). -/
def scas16 (s : State) : Res Unit :=
  (memRead16 s.sregs.es s.regs.di s).bind fun b s =>
    .done (advanceDI 2 (s.setFlags (cmpFlags s.regs.ax b s.fe)))

/-- One LODSB (R567). -/
def lods8 (s : State) : Res Unit :=
  (memRead8 s.sourceSeg s.regs.si s).bind fun v s => .done (advanceSI 1 (s.setReg8 .al v))

/-- One LODSW (R567). -/
def lods16 (s : State) : Res Unit :=
  (memRead16 s.sourceSeg s.regs.si s).bind fun v s => .done (advanceSI 2 (s.setReg16 .ax v))

/-- One STOSB (R568). -/
def stos8 (s : State) : Res Unit :=
  (memWrite8 s.sregs.es s.regs.di (s.reg8 .al) s).bind fun _ s => .done (advanceDI 1 s)

/-- One STOSW (R568). -/
def stos16 (s : State) : Res Unit :=
  (memWrite16 s.sregs.es s.regs.di s.regs.ax s).bind fun _ s => .done (advanceDI 2 s)

/-- One INSB (R569): the port is read before the memory write. -/
def ins8 (s : State) : Res Unit :=
  (portRead8 s.regs.dx s).bind fun v s =>
  (memWrite8 s.sregs.es s.regs.di v s).bind fun _ s => .done (advanceDI 1 s)

/-- One INSW (R569). -/
def ins16 (s : State) : Res Unit :=
  (portRead16 s.regs.dx s).bind fun v s =>
  (memWrite16 s.sregs.es s.regs.di v s).bind fun _ s => .done (advanceDI 2 s)

/-- One OUTSB (R576). -/
def outs8 (s : State) : Res Unit :=
  (memRead8 s.sourceSeg s.regs.si s).bind fun v s =>
  (portWrite8 s.regs.dx v s).bind fun _ s => .done (advanceSI 1 s)

/-- One OUTSW (R576). -/
def outs16 (s : State) : Res Unit :=
  (memRead16 s.sourceSeg s.regs.si s).bind fun v s =>
  (portWrite16 s.regs.dx v s).bind fun _ s => .done (advanceSI 2 s)

/-- Whether a conditional repeat ends after an iteration (R570, R571). -/
def repeatStops (compares : Bool) (s : State) : Bool :=
  compares &&
    match s.rep with
    | .none => false
    | .rep => !s.fe.zf
    | .repNe => s.fe.zf

/-- The loop of a repeat prefix (R570): at most `fuel` iterations; no iteration writes CX, so CX at entry is enough. -/
def repeatLoop (compares : Bool) (iteration : State → Res Unit) : Nat → State → Res Unit
  | 0, s => .done s
  | fuel + 1, s =>
    if s.regs.cx = 0 then .done s
    else
      (iteration s).bind fun _ s =>
        let s := s.setReg16 .cx (s.regs.cx - 1)
        if repeatStops compares s then .done s else repeatLoop compares iteration fuel s

/-- A string instruction with its repeat prefix, if it has one (R570 to R574); `compares` for CMPS and SCAS. -/
def repeated (compares : Bool) (iteration : State → Res Unit) (s : State) : Res Unit :=
  match s.rep with
  | .none => iteration s
  | .rep => repeatLoop compares iteration s.regs.cx.toNat s
  | .repNe => repeatLoop compares iteration s.regs.cx.toNat s

/-! ### Instructions -/

/-- 6C: INSB (R569). -/
def execInsb (s : State) : Out := (repeated false ins8 s).outcome

/-- 6D: INSW (R569). -/
def execInsw (s : State) : Out := (repeated false ins16 s).outcome

/-- 6E: OUTSB (R576). -/
def execOutsb (s : State) : Out := (repeated false outs8 s).outcome

/-- 6F: OUTSW (R576). -/
def execOutsw (s : State) : Out := (repeated false outs16 s).outcome

/-- A4: MOVSB (R564). -/
def execMovsb (s : State) : Out := (repeated false movs8 s).outcome

/-- A5: MOVSW (R564). -/
def execMovsw (s : State) : Out := (repeated false movs16 s).outcome

/-- A6: CMPSB (R565). -/
def execCmpsb (s : State) : Out := (repeated true cmps8 s).outcome

/-- A7: CMPSW (R565). -/
def execCmpsw (s : State) : Out := (repeated true cmps16 s).outcome

/-- AA: STOSB (R568). -/
def execStosb (s : State) : Out := (repeated false stos8 s).outcome

/-- AB: STOSW (R568). -/
def execStosw (s : State) : Out := (repeated false stos16 s).outcome

/-- AC: LODSB (R567). -/
def execLodsb (s : State) : Out := (repeated false lods8 s).outcome

/-- AD: LODSW (R567). -/
def execLodsw (s : State) : Out := (repeated false lods16 s).outcome

/-- AE: SCASB (R566). -/
def execScasb (s : State) : Out := (repeated true scas8 s).outcome

/-- AF: SCASW (R566). -/
def execScasw (s : State) : Out := (repeated true scas16 s).outcome

end Sys2Proof.Machine
end

