-- ==== Sys2Proof/Machine/System.lean ====
section
/-! DEFINITION. HLT, NOP, WAIT, ESC and the prefixes (spec 49 section 4, 30_encoding R175 to R177). The table lists a prefix as a row; its
meaning is to set the prefix state of its slot (log 16). -/

namespace Sys2Proof.Machine

/-! ### Shared forms -/

/-- WAIT and ESC raise InvalidOpcode under ESC_BEHAVIOUR = invalid (R595, R596). -/
def unlessEscInvalid (r : Res Unit) (s : State) : Res Unit :=
  match s.params.esc with
  | .nop => r
  | .invalid => .raise .invalidOpcode s

/-- ESC (R596), `len` bytes long: the operand is decoded and nothing else. Where the opcode is invalid, IP stands after
the opcode byte alone. -/
def escape (len : Nat) (m : ModRM) (s : State) : Res Unit :=
  unlessEscInvalid (.done (decodeModRM m s)) (s.setIP (s.ip - BitVec.ofNat 16 (len - 1)))

/-! ### Instructions -/

/-- D8: ESC n, r/m (R596). -/
def execEsc (n : BitVec 3) (g : BitVec 3) (rm : Rm Reg16) (s : State) : Out :=
  (escape (encode (.esc n g rm)).length (modrm16 g rm) s).outcome

/-- 26: ES___segment_override_prefix (R175). -/
def execPrefixEs (s : State) : Out := .next { s with segOverride := some .es }

/-- 2E: CS___segment_override_prefix (R175). -/
def execPrefixCs (s : State) : Out := .next { s with segOverride := some .cs }

/-- 36: SS___segment_override_prefix (R175). -/
def execPrefixSs (s : State) : Out := .next { s with segOverride := some .ss }

/-- 3E: DS___segment_override_prefix (R175). -/
def execPrefixDs (s : State) : Out := .next { s with segOverride := some .ds }

/-- 90: NOP (R594). -/
def execNop (s : State) : Out := .next s

/-- 9B: WAIT (R595). -/
def execWait (s : State) : Out := (unlessEscInvalid (.done s) s).outcome

/-- F0: LOCK__prefix (R598). -/
def execPrefixLock (s : State) : Out := .next { s with lock := true }

/-- F2: REPNE___REPNZ__prefix (R175). -/
def execPrefixRepne (s : State) : Out := .next { s with rep := .repNe }

/-- F3: REP___REPE___REPZ__prefix (R175). -/
def execPrefixRep (s : State) : Out := .next { s with rep := .rep }

/-- F4: HLT (R590). -/
def execHlt (s : State) : Out := .next { s with halted := true }

end Sys2Proof.Machine
end

