-- ==== Sys2Proof/Machine/Fetch.lean ====
section
/-! DEFINITION. Instruction fetch (spec 30_encoding R171, R172, R205, R206, R220): the bytes of one instruction are
read from CS:IP in stream order, each once, then decoded. -/

namespace Sys2Proof.Machine

/-- `Fetch8()` (R171). -/
def fetch8 (s : State) : Res Byte :=
  (memRead8 s.sregs.cs s.ip s).bind fun b s => .ok b (s.setIP (s.ip + 1))

/-- `n` times `Fetch8()`, the bytes in stream order. -/
def fetchBytes : Nat → State → Res (List Byte)
  | 0, s => .ok [] s
  | n + 1, s => (fetch8 s).bind fun b s => (fetchBytes n s).bind fun t s => .ok (b :: t) s

/-- The opcodes ESC_BEHAVIOUR makes invalid: D8 to DF and 9B (49 R595, R596). -/
def coprocessorOpcode (op : Byte) : Bool := decide (0xD8 ≤ op.toNat ∧ op.toNat ≤ 0xDF) || op == 0x9B

/-- The prefix bytes (R176): consumed before the opcode is looked at, never refused (R175, 49 R598, R599). -/
def prefixByte (b : Byte) : Bool := [0x26, 0x2E, 0x36, 0x3E, 0xF0, 0xF2, 0xF3].contains b

/-- Whether a pattern holds an opcode by its opcode byte alone (log 9). -/
def holdsOpcode (x : EncodingPattern) (op : Byte) : Bool :=
  lo8 x.mask == 0 && word16 op 0 &&& x.mask == x.value

/-- Whether a pattern that looks at the ModRM byte holds an opcode with its ModRM byte (log 9). -/
def holdsPair (x : EncodingPattern) (op m : Byte) : Bool :=
  lo8 x.mask != 0 && word16 op m &&& x.mask == x.value

/-- Whether the opcode byte alone is refused: by ESC_BEHAVIOUR, or by an encoding that INVALID_OPCODES holds besides the
default ones and that does not look at the ModRM byte (R220; log 9). A prefix byte is no opcode. -/
def opcodeRefused (p : Params) (op : Byte) : Bool :=
  !prefixByte op &&
    ((p.esc == .invalid && coprocessorOpcode op) || p.invalidOpcodes.added.any fun x => holdsOpcode x op)

/-- Whether an encoding that INVALID_OPCODES holds besides the default ones refuses the opcode with its ModRM byte
(R220; log 9). -/
def pairRefused (p : Params) (op m : Byte) : Bool :=
  p.invalidOpcodes.added.any fun x => holdsPair x op m

/-- Whether the host has taken an encoding out of INVALID_OPCODES: by its opcode, or with its ModRM byte (R220; log
9). -/
def takenOut (p : Params) : List Byte → Bool
  | [] => false
  | [op] => p.invalidOpcodes.removed.any fun x => holdsOpcode x op
  | op :: m :: _ =>
    p.invalidOpcodes.removed.any fun x => holdsOpcode x op || holdsPair x op m

/-- What the fetch of one instruction or prefix byte finds. -/
inductive Fetched where
  /-- An instruction of the table, or a prefix row. -/
  | row (i : Instr)
  /-- `POP CS`, 0F, where the host admits it (10_state R64, 47 R489). -/
  | popCs
  /-- An encoding that the host admits and to which the spec gives no effect (log 9). -/
  | noMeaning
deriving DecidableEq, Repr

/-- `DecodeModRM()` on a ModRM byte and its displacement, once both are fetched (R190). -/
def openOperand (bytes : List Byte) (s : State) : State :=
  match readModRM bytes with
  | some (g, rm, _) => decodeModRM ⟨g, rm⟩ s
  | none => s

/-- The reg field whose operation an admitted hole of the group table has (R199): shift group 6 is SHL, F6 and F7 1 are
TEST; any other reg field stands for itself. -/
def admittedReg (op : Byte) (g : BitVec 3) : BitVec 3 :=
  if [0xC0, 0xC1, 0xD0, 0xD1, 0xD2, 0xD3].contains op && g == 6 then 4
  else if [0xF6, 0xF7].contains op && g == 1 then 0
  else g

/-- The ModRM byte an instruction is decoded by: its own, except for a hole of the group table that the host admits
(R199; log 9). -/
def rowByte (p : Params) (op m : Byte) : Byte :=
  if takenOut p [op, m] then modrmByte (modOf m) (admittedReg op (regOf m)) (rmOf m) else m

/-- The ModRM encodings without a row and without any effect in the spec (R199; log 9): FE 2 to 7 and FF 7. -/
def lacksRule (op : Byte) (g : BitVec 3) : Bool := (op == 0xFE && decide (2 ≤ g)) || (op == 0xFF && g == 7)

/-- The ModRM encodings without a row whose verdict no rule places after a decode (R220, 60 R654): FE 2 to 7, FF 7, F6
and F7 1. The rules of 8C, 8E, 8F, C6, C7, of the shift groups and of LEA, LES, LDS, BOUND, FF 3 and FF 5 decode the
operand first (43 R370, 46 R435, R442, R446, R447, 47 R487). -/
def dispatchHole (op : Byte) (g : BitVec 3) : Bool := lacksRule op g || ([0xF6, 0xF7].contains op && g == 1)

/-- Whether InvalidOpcode is raised as soon as the ModRM byte is fetched (R220, 60 R654; log 11): at an encoding without
a row that no rule decodes first, unless the host admits it, and at a row that the host has added to INVALID_OPCODES. -/
def refusedAtModRM (p : Params) (op m : Byte) : Bool :=
  if dispatchHole op (regOf m) then pairRefused p op m || !takenOut p [op, m]
  else pairRefused p op m && (opShape op.toNat).hasRow m

/-- What an opcode without a ModRM byte stands for, its bytes fetched (R220; log 9). -/
def decodedPlain (op : Byte) (tail : List Byte) (s : State) : Res Fetched :=
  match decode (op :: tail) with
  | .ok (i, _) => .ok (.row i) s
  | .error _ =>
    if takenOut s.params [op] then .ok (if op = 0x0F then .popCs else .noMeaning) s else .raise .invalidOpcode s

/-- What an opcode with a ModRM byte stands for, its bytes fetched (R220; log 9). An instruction of the table opens its
operand itself; an admitted hole is opened with the reg field it has, then runs as the row it stands for; where its
rule checks the ModRM byte, the operand is decoded first (46 R435, R442, R446, R447, 47 R487). -/
def decodedModRM (op m : Byte) (disp imm : List Byte) (s : State) : Res Fetched :=
  let r := rowByte s.params op m
  match decode (op :: r :: (disp ++ imm)) with
  | .ok (i, _) => .ok (.row i) (if r = m then s else openOperand (m :: disp) s)
  | .error _ => .raise .invalidOpcode (openOperand (m :: disp) s)

/-- The immediate after a ModRM operand (R206): the operand is decoded before it is fetched, so a fault of the fetch
leaves the cache written (R190, 46 R436). -/
def fetchImm (op m : Byte) (disp : List Byte) (s : State) : Res (List Byte) :=
  match fetchBytes ((opShape op.toNat).immLen (rowByte s.params op m)) s with
  | .ok imm s => .ok imm s
  | .raise f s => .raise f (openOperand (m :: disp) s)

/-- The rest of an instruction with a ModRM byte: that byte, its displacement, the immediate (R172, R206). The verdict
InvalidOpcode falls at the ModRM byte where no rule decodes the operand before it; else after the displacement is
fetched and the cache written (R190, 60 R654; log 11). -/
def fetchModRM (op : Byte) (s : State) : Res Fetched :=
  (fetch8 s).bind fun m s =>
    if refusedAtModRM s.params op m then .raise .invalidOpcode s
    else if lacksRule op (regOf m) then .ok .noMeaning s
    else
      (fetchBytes (dispLen m) s).bind fun disp s =>
        if pairRefused s.params op m then .raise .invalidOpcode (openOperand (m :: disp) s)
        else (fetchImm op m disp s).bind fun imm s => decodedModRM op m disp imm s

/-- The fetch of one instruction or prefix byte (R170 to R172). -/
def fetchInstr (s : State) : Res Fetched :=
  (fetch8 s).bind fun op s =>
    if opcodeRefused s.params op then .raise .invalidOpcode s
    else if (opShape op.toNat).hasModRM then fetchModRM op s
    else (fetchBytes ((opShape op.toNat).tailLen 0) s).bind fun t s => decodedPlain op t s

end Sys2Proof.Machine
end

