-- ==== Sys2Proof/Machine/Slot.lean ====
section
/-! DEFINITION. One instruction slot (spec 60 R661, 30_encoding R175): the prefixes and the opcode, the meaning, the
handling of a fault, the interrupt check; and the placing of an instruction's bytes where the next slot fetches. -/

namespace Sys2Proof.Machine

/-- The start of a slot (R175, R661): the latch taken, the prefix state cleared, the operand cache invalid; an abort
request that a callback of the slot makes stands from here (R663). -/
def beginSlot (s : State) : State :=
  { s.callbackAbort with
    ipStart := s.ip
    segOverride := none
    rep := .none
    lock := false
    doc := { s.doc with valid := false } }

/-- What follows the fetch of `i` in a slot: a prefix sets its state and the slot goes on as `rest` does; any other
instruction ends it with its meaning (R175, R599). -/
def afterFetch (rest : State → Out) (i : Instr) (s : State) : Out :=
  if i.isPrefix then
    match exec i s with
    | .next s => rest s
    | .fault r => .fault r
    | .refused r => .refused r
  else exec i s

/-- Prefix-Decoding, Opcode-Dispatch and the operation (R175, R661), with fuel for the prefixes (70 R701; log 16). A
fault of the fetch is handled like one of the operation (R650). An encoding that the host admits and to which the spec
gives no effect is refused by name (log 9). -/
def slotBody : Nat → State → Out
  | 0, _ => .fault .prefixRunaway
  | fuel + 1, s =>
    match fetchInstr s with
    | .raise f s => .next (handleFault f s)
    | .ok (.row i) s => afterFetch (slotBody fuel) i s
    | .ok .popCs s => (popSReg .cs s).outcome
    | .ok .noMeaning _ => .refused .encodingWithoutMeaning

/-- How many instructions and prefixes one slot may fetch (70 R701). -/
def slotFuel : Nat := 65536

/-- The end of a slot: the interrupt check, unless the slot was fatal (R661). -/
def endSlot (s : State) : State :=
  match s.fatal with
  | some _ => s
  | none => interruptCheck s

/-- `Step()` (R661) where it is defined: not fatal and not halted. -/
def runSlot (s : State) : Out :=
  match slotBody slotFuel (beginSlot s) with
  | .next s => .next (endSlot s)
  | .fault r => .fault r
  | .refused r => .refused r

/-- The wake-up of HALT_WAKE_ON_IRQ (R664): with IF set and a request pending the block leaves Halted and delivers
it; the callbacks of the dispatch may request an abort (R663). -/
def wake (s : State) : State :=
  if s.params.haltWakeOnIrq && s.fe.if_ && s.pending.isSome then interruptCheck { s.callbackAbort with halted := false }
  else s

/-- The bytes stored one after another from an offset on, in one selector. -/
def placeBytes (seg : Word) : Word → List Byte → State → State
  | _, [], s => s
  | off, b :: t, s => placeBytes seg (off + 1) t (s.putByte seg off b)

/-- The bus without the refused windows that stand in the way of reading `n` bytes from an offset on. -/
def Bus.openForFetch (b : Bus) (seg off : Word) (n : Nat) : Bus :=
  { b with refusals := b.refusals.filter fun w => (List.range n).all fun k => !w.covers false seg (off + BitVec.ofNat 16 k) }

/-- The machine with an instruction's bytes where the next slot fetches, running and not refused (log 18). -/
def placeInstr (bytes : List Byte) (s : State) : State :=
  placeBytes s.sregs.cs s.ip bytes
    { s with
      halted := false
      fatal := none
      bus := s.bus.openForFetch s.sregs.cs s.ip bytes.length }

end Sys2Proof.Machine
end

