-- ==== Sys2Proof/Machine/Step.lean ====
section
/-! DEFINITION. One step of the machine (spec 60 R653, R661, R664). -/

namespace Sys2Proof.Machine

/-- One step: after a fatal stop none is defined (R653; log 14); a halted machine stays as it is but for the wake-up
(R664; log 15); otherwise one instruction slot. -/
def step (s : State) : Host.Outcome State Fault Refusal :=
  match s.fatal with
  | some r => .fault (.fatalStop r)
  | none => if s.halted then .next (wake s) else runSlot s

/-- The state with the instruction of a table number where `step` fetches next (log 17, log 18). -/
def State.withFetchWord (s : State) (nbits w : Nat) : State := placeInstr (tableWordBytes nbits w) s

end Sys2Proof.Machine
end

