-- ==== Sys2Proof/Machine/HostCalls.lean ====
section
/-! DEFINITION. The calls the host makes between slots (spec 60 R630, R631, R660 to R665, 70 R680, R685). `step` makes
none of them. -/

namespace Sys2Proof.Machine

/-- `Reset()` (70 R680, 10_state R110): every register, flag and latch as parameter RESET has it; memory, ports, bus,
parameters and hooks are not touched. The count of draws goes on, so that no draw is taken twice (log 4). -/
def State.hostReset (s : State) : State :=
  { s with
    regs := s.launch.regs
    sregs := s.launch.sregs
    ip := s.launch.ip
    ipStart := s.launch.ipStart
    fe := { s.launch.fe with draws := s.fe.draws }
    doc := s.launch.doc
    segOverride := s.launch.segOverride
    rep := s.launch.rep
    lock := s.launch.lock
    pending := s.launch.pending
    halted := s.launch.halted
    budget := s.launch.budget
    abortRequested := s.launch.abortRequested
    fatal := s.launch.fatal }

/-- `RaiseHardwareInterrupt(N)` (R630); none where PENDING_POLICY makes the call a host error (log 25). -/
def State.raiseHardwareInterrupt (n : Byte) (s : State) : Option State :=
  match s.pending with
  | none => some { s with pending := some n }
  | some _ =>
    match s.params.pendingPolicy with
    | .overwrite => some { s with pending := some n }
    | .keepFirst => some s
    | .forbidden => none

/-- `RaiseInterruptNow(N)` (R631): dispatched at once, whatever IF is, the pending slot untouched; the callbacks of
the dispatch may request an abort (R663). -/
def State.raiseInterruptNow (n : Byte) (s : State) : State := dispatch n .software none s.callbackAbort

/-- `Resume()` (R664). -/
def State.resume (s : State) : State := { s with halted := false }

/-- The host's abort request (R663). -/
def State.requestAbort (s : State) : State := { s with abortRequested := true }

/-- The bus redirected between slots, with the memory behind it (R665, 10_state R103). -/
def State.redirectBus (b : Bus) (m : Memory) (s : State) : State := { s with bus := b, mem := m }

/-- The port bus redirected between slots (10_state R103): its scripted answers and its record of writes. The model's
count of port byte reads goes on, so that no free value is taken twice (log 5). -/
def State.redirectPorts (p : Ports) (s : State) : State := { s with ports := { p with reads := s.ports.reads } }

/-- DEBUG_HOOK.Continue (R662): whether the loop goes on, and the state after the answer. -/
def debugContinues (s : State) : Bool × State :=
  match s.hooks.debug with
  | some ⟨a :: t, i⟩ => (a.yes, applyWrites a.writes { s with hooks := { s.hooks with debug := some ⟨t, i⟩ } })
  | some ⟨[], _⟩ => (true, s)
  | none => (true, s)

/-- What `Run(N)` returns (R660); `stuck` where a step of this model stops on a fault of its own (log 16). -/
inductive RunResult where
  | fatal (r : FatalReason)
  | halted
  | budgetExhausted
  | aborted
  | debuggerStop
  | stuck
deriving DecidableEq, Repr

/-- The loop of `Run` (R660), the tests in the order of the rule; `fuel` is the budget of the call. -/
def runLoop : Nat → State → RunResult × State
  | fuel, s =>
    if s.halted then (.halted, s)
    else
      match fuel with
      | 0 => (.budgetExhausted, s)
      | fuel + 1 =>
        if s.abortRequested then (.aborted, { s with abortRequested := false })
        else
          match debugContinues s with
          | (false, s) => (.debuggerStop, s)
          | (true, s) =>
            match step s with
            | .fault _ => (.stuck, s)
            | .refused _ => (.stuck, s)
            | .next s =>
              match s.fatal with
              | some r => (.fatal r, s)
              | none => runLoop fuel { s with budget := s.budget - 1 }

/-- `Run(N)` (R660), with the wake-up of HALT_WAKE_ON_IRQ at its entry (R664). Where the entry stands against the test of
`fatal` and `budget <- N` the spec leaves open: here after both, so the budget is N while the wake-up dispatches.
DESIGN CHOICE (log 28). -/
def run (n : Nat) (s : State) : RunResult × State :=
  match s.fatal with
  | some r => (.fatal r, s)
  | none =>
    let s := { s with budget := n }
    let s := if s.halted then wake s else s
    match s.fatal with
    | some r => (.fatal r, s)
    | none => runLoop n s

end Sys2Proof.Machine
end

