-- ==== Sys2Proof/Safety.lean ====
section
/-! DEFINITION. The invariants of the machine and what counts as a safe run, in the terms claims use. -/

namespace Sys2Proof.Machine

/-- The machine's invariant: memory in its canonical form, and every flag the Deferred Flag Record marks derived equal
to what the record yields (10_state R91, R92). -/
structure State.Inv (s : State) : Prop where
  memory : s.mem.wf
  record : s.fe.recordAgrees

/-- A step that goes on: it has a next state, and no fatal reason was set in it (60 R653). -/
def goesOn (s : State) : Prop := ∃ t, step s = .next t ∧ t.fatal = none

/-- A safe run of `n` steps: every step goes on. -/
def safeRun : Nat → State → Prop
  | 0, _ => True
  | n + 1, s => ∃ t, step s = .next t ∧ t.fatal = none ∧ safeRun n t

end Sys2Proof.Machine
end

