-- ==== Sys2Proof/Certificates/Slice0/Obligations.lean ====
section
/-! DEFINITION. The statements for the provers. Each says what the spec says an instruction or the machine does; the
vocabulary they share comes first. -/

namespace Sys2Proof.Claims

open Machine

/-! ### Operands -/

/-- The segment of a memory operand: its default, or the override of the slot. -/
def eaSeg (s : State) (e : MemEA) : Word := s.segmentOr (formSeg e)

/-- The offset of a memory operand. -/
def eaOff (s : State) (e : MemEA) : Word := formOffset s.regs e

/-- The bus answers a read of one byte. -/
def readable8 (s : State) (seg off : Word) : Prop := s.bus.refusal false seg off = none

/-- The bus answers a read of one word, byte by byte. -/
def readable16 (s : State) (seg off : Word) : Prop := readable8 s seg off ∧ readable8 s seg (off + 1)

/-- The bus accepts a write of one byte. -/
def writable8 (s : State) (seg off : Word) : Prop := s.bus.refusal true seg off = none

/-- The bus accepts a write of one word, byte by byte. -/
def writable16 (s : State) (seg off : Word) : Prop := writable8 s seg off ∧ writable8 s seg (off + 1)

/-- An `r/m8` operand can be read. -/
def canRead8 (s : State) : Rm Reg8 → Prop
  | .reg _ => True
  | .mem e => readable8 s (eaSeg s e) (eaOff s e)

/-- An `r/m16` operand can be read. -/
def canRead16 (s : State) : Rm Reg16 → Prop
  | .reg _ => True
  | .mem e => readable16 s (eaSeg s e) (eaOff s e)

/-- An `r/m8` operand can be written. -/
def canWrite8 (s : State) : Rm Reg8 → Prop
  | .reg _ => True
  | .mem e => writable8 s (eaSeg s e) (eaOff s e)

/-- An `r/m16` operand can be written. -/
def canWrite16 (s : State) : Rm Reg16 → Prop
  | .reg _ => True
  | .mem e => writable16 s (eaSeg s e) (eaOff s e)

/-- The value of an `r/m8` operand. -/
def operand8 (s : State) : Rm Reg8 → Byte
  | .reg r => s.reg8 r
  | .mem e => s.byteAt (eaSeg s e) (eaOff s e)

/-- The value of an `r/m16` operand. -/
def operand16 (s : State) : Rm Reg16 → Word
  | .reg r => s.reg16 r
  | .mem e => s.wordAt (eaSeg s e) (eaOff s e)

/-- The state `t` with the `r/m8` operand of `s` replaced: the address is formed from the registers of `s`. -/
def assign8 (s : State) (rm : Rm Reg8) (v : Byte) (t : State) : State :=
  match rm with
  | .reg r => t.setReg8 r v
  | .mem e => t.putByte (eaSeg s e) (eaOff s e) v

/-- The state `t` with the `r/m16` operand of `s` replaced. -/
def assign16 (s : State) (rm : Rm Reg16) (v : Word) (t : State) : State :=
  match rm with
  | .reg r => t.setReg16 r v
  | .mem e => t.putWord (eaSeg s e) (eaOff s e) v

/-- The state once the ModRM operand is decoded: only the Decoded-Operand Cache differs. -/
def opened (m : ModRM) (s : State) : State := { s with doc := m.cache s }

/-- The slot's operand cache is still empty, as it is when an operation starts. -/
def fresh (s : State) : Prop := s.doc.valid = false

/-! ### The stack -/

/-- One word can be pushed. -/
def canPush (s : State) : Prop := writable16 s s.sregs.ss (s.regs.sp - 2)

/-- The state after one word is pushed: the word at SS:SP-2, SP down by 2. -/
def pushed (v : Word) (s : State) : State := (s.putWord s.sregs.ss (s.regs.sp - 2) v).setSP (s.regs.sp - 2)

/-- The word `k` bytes above the stack pointer can be read. -/
def canPop (s : State) (k : Word) : Prop := readable16 s s.sregs.ss (s.regs.sp + k)

/-- The word `k` bytes above the stack pointer. -/
def stacked (s : State) (k : Word) : Word := s.wordAt s.sregs.ss (s.regs.sp + k)

/-- Words pushed one after another. -/
def pushedAll : List Word → State → State
  | [], s => s
  | v :: l, s => pushedAll l (pushed v s)

/-- The first `k` words below the stack pointer can be written. -/
def canPushAll (s : State) (k : Nat) : Prop :=
  ∀ i < k, writable16 s s.sregs.ss (s.regs.sp - BitVec.ofNat 16 (2 * (i + 1)))

/-! ### Pairs of words in memory -/

/-- Both words of a pair in memory can be read, the second two bytes on (46 R435). -/
def pairReadable (s : State) (m : MemEA) : Prop :=
  readable16 s (eaSeg s m) (eaOff s m) ∧ readable16 s (eaSeg s m) (eaOff s m + 2)

/-- The first word of a pair in memory. -/
def pairLow (s : State) (m : MemEA) : Word := s.wordAt (eaSeg s m) (eaOff s m)

/-- The second word of a pair in memory. -/
def pairHigh (s : State) (m : MemEA) : Word := s.wordAt (eaSeg s m) (eaOff s m + 2)

/-! ### Refused accesses -/

/-- The bus refuses a read of one word with `f`, at its first or at its second byte. -/
def wordReadRefused (s : State) (seg off : Word) (f : CpuFault) : Prop :=
  s.bus.refusal false seg off = some f ∨ (readable8 s seg off ∧ s.bus.refusal false seg (off + 1) = some f)

/-- The bus refuses a write of the word `v` with `f`, leaving `t`: at the first byte nothing is written, at the second
the first byte is (20_memory R121, R125; log 10). -/
def wordWriteRefused (s : State) (seg off v : Word) (f : CpuFault) (t : State) : Prop :=
  (s.bus.refusal true seg off = some f ∧ t = s) ∨
    (writable8 s seg off ∧ s.bus.refusal true seg (off + 1) = some f ∧ t = s.putByte seg off (v.extractLsb' 0 8))

/-- The bus refuses the push of `v` with `f`, leaving `t`: SP is as before. -/
def pushRefused (s : State) (v : Word) (f : CpuFault) (t : State) : Prop :=
  wordWriteRefused s s.sregs.ss (s.regs.sp - 2) v f t

/-! ### Frames -/

/-- The word register a byte register is half of (10_state R52): its number modulo 4. -/
def parentReg (r : Reg8) : Reg16 := Reg16.ofNum (r.num &&& 3)

/-- The word registers a byte destination writes. -/
def destRegs8 : Rm Reg8 → List Reg16
  | .reg r => [parentReg r]
  | .mem _ => []

/-- The word registers a word destination writes. -/
def destRegs16 : Rm Reg16 → List Reg16
  | .reg r => [r]
  | .mem _ => []

/-- The bus address of the byte a byte destination stores to. -/
def stored8 (s : State) : Rm Reg8 → List Nat
  | .reg _ => []
  | .mem e => [busAddr s.bus.map (eaSeg s e) (eaOff s e)]

/-- The bus addresses of the two bytes of a word. -/
def wordCells (s : State) (seg off : Word) : List Nat := [busAddr s.bus.map seg off, busAddr s.bus.map seg (off + 1)]

/-- The bus addresses of the bytes a word destination stores to. -/
def stored16 (s : State) : Rm Reg16 → List Nat
  | .reg _ => []
  | .mem e => wordCells s (eaSeg s e) (eaOff s e)

/-- Everything but the registers, IP, the flags, the operand cache and memory is as before. -/
def sameMachinery (s t : State) : Prop :=
  t.ipStart = s.ipStart ∧ t.segOverride = s.segOverride ∧ t.rep = s.rep ∧ t.lock = s.lock ∧ t.pending = s.pending ∧
    t.halted = s.halted ∧ t.budget = s.budget ∧ t.abortRequested = s.abortRequested ∧ t.fatal = s.fatal ∧
    t.params = s.params ∧ t.launch = s.launch ∧ t.hooks = s.hooks ∧ t.callbackAborts = s.callbackAborts ∧
    t.bus = s.bus

/-- The frame of an instruction that goes from `s` to `t`: every general register not in `regs`, every segment
register, TF, IF and DF, with `flags = false` every status flag and the record too, the machinery, the ports, and every
byte of memory whose bus address is not in `stored` are as before. IP and the operand cache may change. -/
def framed (s t : State) (regs : List Reg16) (flags : Bool) (stored : List Nat) : Prop :=
  (∀ r, r ∉ regs → t.reg16 r = s.reg16 r) ∧ t.sregs = s.sregs ∧ (flags = false → t.fe = s.fe) ∧ t.fe.tf = s.fe.tf ∧
    t.fe.if_ = s.fe.if_ ∧ t.fe.df = s.fe.df ∧ sameMachinery s t ∧ t.ports = s.ports ∧
    ∀ seg off, busAddr s.bus.map seg off ∉ stored → t.byteAt seg off = s.byteAt seg off

/-- The frame law of one instruction: in every state where its operand cache is empty and `pre` holds, what it leaves
unchanged when it answers a next state. -/
def FrameLaw (i : Instr) (pre : State → Prop) (regs : List Reg16) (flags : Bool) (stored : State → List Nat) : Prop :=
  ∀ s t, fresh s → pre s → exec i s = .next t → framed s t regs flags (stored s)

/-- What else an instruction may change beside IP and the operand cache: the general and the segment registers named,
the status flags and their record, the control flags, the port bus's own record. -/
structure Reach where
  regs : List Reg16 := []
  sregs : List SReg := []
  status : Bool := false
  control : Bool := false
  ports : Bool := false

/-- The frame of an instruction that goes from `s` to `t` and reaches `f`: everything else, and every byte of memory
whose bus address is not in `stored`, is as before. -/
def framedBy (s t : State) (f : Reach) (stored : List Nat) : Prop :=
  (∀ r, r ∉ f.regs → t.reg16 r = s.reg16 r) ∧ (∀ r, r ∉ f.sregs → t.sreg r = s.sreg r) ∧
    (f.status = false → f.control = false → t.fe = s.fe) ∧
    (f.control = false → t.fe.tf = s.fe.tf ∧ t.fe.if_ = s.fe.if_ ∧ t.fe.df = s.fe.df) ∧ sameMachinery s t ∧
    (f.ports = false → t.ports = s.ports) ∧
    ∀ seg off, busAddr s.bus.map seg off ∉ stored → t.byteAt seg off = s.byteAt seg off

/-- The frame law of one instruction that reaches more than general registers and status flags. -/
def ReachLaw (i : Instr) (pre : State → Prop) (f : Reach) (stored : State → List Nat) : Prop :=
  ∀ s t, fresh s → pre s → exec i s = .next t → framedBy s t f (stored s)

/-- A write-back that the bus refuses at the first byte of a memory destination: the fault is handled, and of the
instruction itself nothing has happened but the decode of its operand, `o` (46 R436, 60 R651). -/
def writeRefused {α : Type} (i : Instr) (s o : State) (rm : Rm α) : Prop :=
  ∀ e f, rm = .mem e → s.bus.refusal true (eaSeg s e) (eaOff s e) = some f → exec i s = .next (handleFault f o)

/-! ### The forms of the table -/

/-- `k r/m8, r8` (opcodes 8k+0). -/
def aluRmR8Of : AluOp → Rm Reg8 → Reg8 → Instr
  | .add => .addRm8R8
  | .or => .orRm8R8
  | .adc => .adcRm8R8
  | .sbb => .sbbRm8R8
  | .and => .andRm8R8
  | .sub => .subRm8R8
  | .xor => .xorRm8R8
  | .cmp => .cmpRm8R8

/-- `k r/m16, r16` (opcodes 8k+1). -/
def aluRmR16Of : AluOp → Rm Reg16 → Reg16 → Instr
  | .add => .addRm16R16
  | .or => .orRm16R16
  | .adc => .adcRm16R16
  | .sbb => .sbbRm16R16
  | .and => .andRm16R16
  | .sub => .subRm16R16
  | .xor => .xorRm16R16
  | .cmp => .cmpRm16R16

/-- `k r8, r/m8` (opcodes 8k+2). -/
def aluRRm8Of : AluOp → Reg8 → Rm Reg8 → Instr
  | .add => .addR8Rm8
  | .or => .orR8Rm8
  | .adc => .adcR8Rm8
  | .sbb => .sbbR8Rm8
  | .and => .andR8Rm8
  | .sub => .subR8Rm8
  | .xor => .xorR8Rm8
  | .cmp => .cmpR8Rm8

/-- `k r16, r/m16` (opcodes 8k+3). -/
def aluRRm16Of : AluOp → Reg16 → Rm Reg16 → Instr
  | .add => .addR16Rm16
  | .or => .orR16Rm16
  | .adc => .adcR16Rm16
  | .sbb => .sbbR16Rm16
  | .and => .andR16Rm16
  | .sub => .subR16Rm16
  | .xor => .xorR16Rm16
  | .cmp => .cmpR16Rm16

/-- `k AL, imm8` (opcodes 8k+4). -/
def aluAlImmOf : AluOp → Byte → Instr
  | .add => .addAlImm8
  | .or => .orAlImm8
  | .adc => .adcAlImm8
  | .sbb => .sbbAlImm8
  | .and => .andAlImm8
  | .sub => .subAlImm8
  | .xor => .xorAlImm8
  | .cmp => .cmpAlImm8

/-- `k AX, imm16` (opcodes 8k+5). -/
def aluAxImmOf : AluOp → Word → Instr
  | .add => .addAxImm16
  | .or => .orAxImm16
  | .adc => .adcAxImm16
  | .sbb => .sbbAxImm16
  | .and => .andAxImm16
  | .sub => .subAxImm16
  | .xor => .xorAxImm16
  | .cmp => .cmpAxImm16

/-- `k r/m8, imm8` (opcode 80). -/
def aluRmImm8Of : AluOp → Rm Reg8 → Byte → Instr
  | .add => .addRm8Imm8
  | .or => .orRm8Imm8
  | .adc => .adcRm8Imm8
  | .sbb => .sbbRm8Imm8
  | .and => .andRm8Imm8
  | .sub => .subRm8Imm8
  | .xor => .xorRm8Imm8
  | .cmp => .cmpRm8Imm8

/-- `k r/m8, imm8` (opcode 82). -/
def aluRmImm8Op82Of : AluOp → Rm Reg8 → Byte → Instr
  | .add => .addRm8Imm8Op82
  | .or => .orRm8Imm8Op82
  | .adc => .adcRm8Imm8Op82
  | .sbb => .sbbRm8Imm8Op82
  | .and => .andRm8Imm8Op82
  | .sub => .subRm8Imm8Op82
  | .xor => .xorRm8Imm8Op82
  | .cmp => .cmpRm8Imm8Op82

/-- `k r/m16, imm16` (opcode 81). -/
def aluRmImm16Of : AluOp → Rm Reg16 → Word → Instr
  | .add => .addRm16Imm16
  | .or => .orRm16Imm16
  | .adc => .adcRm16Imm16
  | .sbb => .sbbRm16Imm16
  | .and => .andRm16Imm16
  | .sub => .subRm16Imm16
  | .xor => .xorRm16Imm16
  | .cmp => .cmpRm16Imm16

/-- `k r/m16, imm8s` (opcode 83). -/
def aluRmImm8sOf : AluOp → Rm Reg16 → Byte → Instr
  | .add => .addRm16Imm8s
  | .or => .orRm16Imm8s
  | .adc => .adcRm16Imm8s
  | .sbb => .sbbRm16Imm8s
  | .and => .andRm16Imm8s
  | .sub => .subRm16Imm8s
  | .xor => .xorRm16Imm8s
  | .cmp => .cmpRm16Imm8s

/-- Shift or rotate `r/m8, imm8` (opcode C0). -/
def shiftRmImm8Of : ShiftOp → Rm Reg8 → Byte → Instr
  | .rol => .rolRm8Imm8
  | .ror => .rorRm8Imm8
  | .rcl => .rclRm8Imm8
  | .rcr => .rcrRm8Imm8
  | .shl => .shlRm8Imm8
  | .shr => .shrRm8Imm8
  | .sar => .sarRm8Imm8

/-- Shift or rotate `r/m16, imm8` (opcode C1). -/
def shiftRm16ImmOf : ShiftOp → Rm Reg16 → Byte → Instr
  | .rol => .rolRm16Imm8
  | .ror => .rorRm16Imm8
  | .rcl => .rclRm16Imm8
  | .rcr => .rcrRm16Imm8
  | .shl => .shlRm16Imm8
  | .shr => .shrRm16Imm8
  | .sar => .sarRm16Imm8

/-- Shift or rotate `r/m8, 1` (opcode D0). -/
def shiftRm8By1Of : ShiftOp → Rm Reg8 → Instr
  | .rol => .rolRm8By1
  | .ror => .rorRm8By1
  | .rcl => .rclRm8By1
  | .rcr => .rcrRm8By1
  | .shl => .shlRm8By1
  | .shr => .shrRm8By1
  | .sar => .sarRm8By1

/-- Shift or rotate `r/m16, 1` (opcode D1). -/
def shiftRm16By1Of : ShiftOp → Rm Reg16 → Instr
  | .rol => .rolRm16By1
  | .ror => .rorRm16By1
  | .rcl => .rclRm16By1
  | .rcr => .rcrRm16By1
  | .shl => .shlRm16By1
  | .shr => .shrRm16By1
  | .sar => .sarRm16By1

/-- Shift or rotate `r/m8, CL` (opcode D2). -/
def shiftRm8ClOf : ShiftOp → Rm Reg8 → Instr
  | .rol => .rolRm8Cl
  | .ror => .rorRm8Cl
  | .rcl => .rclRm8Cl
  | .rcr => .rcrRm8Cl
  | .shl => .shlRm8Cl
  | .shr => .shrRm8Cl
  | .sar => .sarRm8Cl

/-- Shift or rotate `r/m16, CL` (opcode D3). -/
def shiftRm16ClOf : ShiftOp → Rm Reg16 → Instr
  | .rol => .rolRm16Cl
  | .ror => .rorRm16Cl
  | .rcl => .rclRm16Cl
  | .rcr => .rcrRm16Cl
  | .shl => .shlRm16Cl
  | .shr => .shrRm16Cl
  | .sar => .sarRm16Cl

/-- The ALU code of an operation (30_encoding R199), the reg field of opcodes 80 to 83. -/
def aluCode : AluOp → BitVec 3
  | .add => 0
  | .or => 1
  | .adc => 2
  | .sbb => 3
  | .and => 4
  | .sub => 5
  | .xor => 6
  | .cmp => 7

/-- The reg field of a shift or rotate (30_encoding R199). -/
def shiftCode : ShiftOp → BitVec 3
  | .rol => 0
  | .ror => 1
  | .rcl => 2
  | .rcr => 3
  | .shl => 4
  | .shr => 5
  | .sar => 7

/-- The default list of invalid encodings (30_encoding R220), written over the opcode and its ModRM byte. -/
def invalidEncoding (op m : Byte) : Bool :=
  let mod3 := m.toNat / 64 = 3
  let reg := m.toNat / 8 % 8
  match op.toNat with
  | 0x0F => true
  | 0x63 => true
  | 0x64 => true
  | 0x65 => true
  | 0x66 => true
  | 0x67 => true
  | 0xD6 => true
  | 0xF1 => true
  | 0x62 => decide mod3
  | 0x8C => decide (4 ≤ reg)
  | 0x8D => decide mod3
  | 0x8E => decide (4 ≤ reg)
  | 0x8F => decide (reg ≠ 0)
  | 0xC0 => decide (reg = 6)
  | 0xC1 => decide (reg = 6)
  | 0xC4 => decide mod3
  | 0xC5 => decide mod3
  | 0xC6 => decide (reg ≠ 0)
  | 0xC7 => decide (reg ≠ 0)
  | 0xD0 => decide (reg = 6)
  | 0xD1 => decide (reg = 6)
  | 0xD2 => decide (reg = 6)
  | 0xD3 => decide (reg = 6)
  | 0xF6 => decide (reg = 1)
  | 0xF7 => decide (reg = 1)
  | 0xFE => decide (2 ≤ reg)
  | 0xFF => decide (reg = 7 ∨ ((reg = 3 ∨ reg = 5) ∧ mod3))
  | _ => false

/-- The `n` bytes from an offset on, in one selector. -/
def bytesAt (s : State) (seg : Word) : Word → Nat → List Byte
  | _, 0 => []
  | off, n + 1 => s.byteAt seg off :: bytesAt s seg (off + 1) n

/-- The bytes at CS:IP are `l`, and each can be read. -/
def codeIs (s : State) (l : List Byte) : Prop :=
  bytesAt s s.sregs.cs s.ip l.length = l ∧ ∀ k < l.length, readable8 s s.sregs.cs (s.ip + BitVec.ofNat 16 k)

/-- The parameters do not refuse an encoding: neither by its opcode nor by its ModRM byte (30_encoding R220). -/
def admitted (p : Params) : List Byte → Prop
  | [] => False
  | op :: t =>
    opcodeRefused p op = false ∧ ((opShape op.toNat).hasModRM = true → ∀ m u, t = m :: u → pairRefused p op m = false)

/-- What the end of a slot does with the outcome of its instruction. -/
def slotEnd : Out → Out
  | .next s => .next (endSlot s)
  | .fault r => .fault r
  | .refused r => .refused r

/-- The state in which the operation of a slot runs: the slot begun, IP after `n` bytes. -/
def fetched (s : State) (n : Nat) : State := { beginSlot s with ip := s.ip + BitVec.ofNat 16 n }

/-- What a prefix byte sets (30_encoding R175). -/
def prefixState (i : Instr) (s : State) : State :=
  match i with
  | .prefixEs => { s with segOverride := some .es }
  | .prefixCs => { s with segOverride := some .cs }
  | .prefixSs => { s with segOverride := some .ss }
  | .prefixDs => { s with segOverride := some .ds }
  | .prefixLock => { s with lock := true }
  | .prefixRepne => { s with rep := .repNe }
  | .prefixRep => { s with rep := .rep }
  | _ => s

/-- What a run of prefix bytes sets, the later ones after the earlier ones. -/
def prefixRun : List Instr → State → State
  | [], s => s
  | i :: t, s => prefixRun t (prefixState i s)

/-- The opcodes without a row in the opcode table, whatever follows them (30_encoding R220). -/
def rowless : List Byte := [0x0F, 0x63, 0x64, 0x65, 0x66, 0x67, 0xD6, 0xF1]

/-- The opcodes whose own rules raise InvalidOpcode for a reg field or for mod 3 (46 R435, R442, R446, R447, 47 R487):
BOUND, 8C, LEA, 8E, 8F, LES, LDS, C6, C7 and the far forms of FF. -/
def ownCheck (op : Byte) (g : BitVec 3) : Prop :=
  op ∈ [(0x62 : Byte), 0x8C, 0x8D, 0x8E, 0x8F, 0xC4, 0xC5, 0xC6, 0xC7] ∨ (op = 0xFF ∧ g ≠ 7)

/-- An encoding of these opcodes that is on the list of R220 and that no rule decodes before the verdict: FE 2 to 7, FF 7,
F6 and F7 1 (60 R654). -/
def atDispatch (op m : Byte) : Prop :=
  invalidEncoding op m = true ∧ (op = 0xFE ∨ (op = 0xFF ∧ m.toNat / 8 % 8 = 7) ∨ op = 0xF6 ∨ op = 0xF7)

/-- What the 8086 executes at a hole of the group table, its immediate bytes given: SHL in a shift group, TEST under F6
and F7 (30_encoding R199). -/
def admittedRow (op : Byte) (g : BitVec 3) (rm : Rm (BitVec 3)) (imm : List Byte) : Option Instr :=
  match op.toNat, g.toNat, imm with
  | 0xC0, 6, [c] => some (.shlRm8Imm8 (rm.map Reg8.ofNum) c)
  | 0xC1, 6, [c] => some (.shlRm16Imm8 (rm.map Reg16.ofNum) c)
  | 0xD0, 6, [] => some (.shlRm8By1 (rm.map Reg8.ofNum))
  | 0xD1, 6, [] => some (.shlRm16By1 (rm.map Reg16.ofNum))
  | 0xD2, 6, [] => some (.shlRm8Cl (rm.map Reg8.ofNum))
  | 0xD3, 6, [] => some (.shlRm16Cl (rm.map Reg16.ofNum))
  | 0xF6, 1, [b] => some (.testRm8Imm8 (rm.map Reg8.ofNum) b)
  | 0xF7, 1, [l, h] => some (.testRm16Imm16 (rm.map Reg16.ofNum) (h ++ l))
  | _, _, _ => none

/-- A slot can begin, and its prefixes can be those of the list. -/
def opensSlot (s : State) (ps : List Instr) : Prop :=
  s.fatal = none ∧ s.halted = false ∧ (∀ p ∈ ps, p.isPrefix = true) ∧ ps.length < slotFuel

/-- The step raises InvalidOpcode, `o` being the state at the verdict. -/
def invalidAt (s o : State) : Prop :=
  step s = .next (endSlot (dispatch s.params.vecInvalidOpcode .fault (some .invalidOpcode)
    (if s.params.rewindInvalidOpcode then o.setIP s.ip else o)))

/-- The vector entry of interrupt n can be read (20_memory R130). -/
def vectorReadable (s : State) (n : Byte) : Prop :=
  readable16 s s.params.ivtSel (4 * zext8 n) ∧ readable16 s s.params.ivtSel (4 * zext8 n + 2)

/-- The offset of the handler of interrupt n. -/
def vectorOff (s : State) (n : Byte) : Word := s.wordAt s.params.ivtSel (4 * zext8 n)

/-- The selector of the handler of interrupt n. -/
def vectorSel (s : State) (n : Byte) : Word := s.wordAt s.params.ivtSel (4 * zext8 n + 2)

/-- The three words a dispatch pushes can be written. -/
def frameWritable (s : State) : Prop :=
  writable16 s s.sregs.ss (s.regs.sp - 2) ∧ writable16 s s.sregs.ss (s.regs.sp - 4) ∧
    writable16 s s.sregs.ss (s.regs.sp - 6)

/-- The bus addresses of the six bytes a dispatch pushes. -/
def frameCells (s : State) : List Nat :=
  wordCells s s.sregs.ss (s.regs.sp - 2) ++ wordCells s s.sregs.ss (s.regs.sp - 4) ++
    wordCells s s.sregs.ss (s.regs.sp - 6)

/-- A near CALL whose target can be read. -/
def nearCall (i : Instr) (s : State) : Prop :=
  (∃ rel, i = .callRel16 rel) ∨ ∃ rm, i = .callRm16 rm ∧ fresh s ∧ canRead16 s rm

/-- A far CALL whose pointer can be read and whose selector is executable. -/
def farCall (i : Instr) (s : State) : Prop :=
  (∃ off sel, i = .callFarDirect off sel ∧ s.bus.isExecutable sel = true) ∨
    ∃ m, i = .callFarMem m ∧ fresh s ∧ pairReadable s m ∧ s.bus.isExecutable (pairHigh s m) = true

/-- An instruction that interrupts with vector `n`. -/
def interrupts (i : Instr) (s : State) (n : Byte) : Prop :=
  i = .intImm8 n ∨ (i = .int3 ∧ n = s.params.vecBreakpoint) ∨
    (i = .into ∧ s.fe.of_ = true ∧ n = s.params.vecOverflow)

/-- The two words a far call pushes can be written and read. -/
def farFrameOpen (s : State) : Prop :=
  writable16 s s.sregs.ss (s.regs.sp - 2) ∧ writable16 s s.sregs.ss (s.regs.sp - 4) ∧
    readable16 s s.sregs.ss (s.regs.sp - 2) ∧ readable16 s s.sregs.ss (s.regs.sp - 4)

/-- The three words a dispatch pushes can be read. -/
def frameReadable (s : State) : Prop :=
  readable16 s s.sregs.ss (s.regs.sp - 2) ∧ readable16 s s.sregs.ss (s.regs.sp - 4) ∧
    readable16 s s.sregs.ss (s.regs.sp - 6)

/-- The nine flags are the same. -/
def sameFlags (a b : FlagEngine) : Prop :=
  b.cf = a.cf ∧ b.pf = a.pf ∧ b.af = a.af ∧ b.zf = a.zf ∧ b.sf = a.sf ∧ b.tf = a.tf ∧ b.if_ = a.if_ ∧ b.df = a.df ∧
    b.of_ = a.of_

/-- Run makes a step: nothing stops it before the debugger is asked. -/
def runs (s : State) : Prop := s.fatal = none ∧ s.halted = false ∧ s.abortRequested = false

/-- What Run returns once a step of it has ended in `t`, with a budget of `n` left (60 R660). -/
def afterStep (n : Nat) (t : State) : RunResult × State :=
  match t.fatal with
  | some r => (.fatal r, t)
  | none => runLoop n { t with budget := t.budget - 1 }

/-- The reset values (10_state R110). -/
def resetLike (s : State) : Prop :=
  s.regs = ⟨0, 0, 0, 0, 0, 0, 0, 0⟩ ∧ s.sregs = ⟨0, 0, 0, 0⟩ ∧ s.ip = 0 ∧ s.ipStart = 0 ∧ s.fe.cf = false ∧
    s.fe.pf = false ∧ s.fe.af = false ∧ s.fe.zf = false ∧ s.fe.sf = false ∧ s.fe.tf = false ∧ s.fe.if_ = false ∧
    s.fe.df = false ∧ s.fe.of_ = false ∧ s.fe.record.src = .allExplicit ∧
    flagsImage16 s.params s.fe = s.params.flagsFixedOnes ∧ s.doc.valid = false ∧ s.segOverride = none ∧
    s.rep = .none ∧ s.lock = false ∧ s.pending = none ∧ s.halted = false ∧ s.budget = 0 ∧ s.abortRequested = false ∧
    s.fatal = none

/-- Every piece of the block's own state has the value RESET gives it (10_state R110). -/
def launched (l : Launch) (s : State) : Prop :=
  s.regs = l.regs ∧ s.sregs = l.sregs ∧ s.ip = l.ip ∧ s.ipStart = l.ipStart ∧ s.fe.cf = l.fe.cf ∧ s.fe.pf = l.fe.pf ∧
    s.fe.af = l.fe.af ∧ s.fe.zf = l.fe.zf ∧ s.fe.sf = l.fe.sf ∧ s.fe.tf = l.fe.tf ∧ s.fe.if_ = l.fe.if_ ∧
    s.fe.df = l.fe.df ∧ s.fe.of_ = l.fe.of_ ∧ s.fe.record = l.fe.record ∧ s.doc = l.doc ∧
    s.segOverride = l.segOverride ∧ s.rep = l.rep ∧ s.lock = l.lock ∧ s.pending = l.pending ∧ s.halted = l.halted ∧
    s.budget = l.budget ∧ s.abortRequested = l.abortRequested ∧ s.fatal = l.fatal

/-- The base of row rm of the addressing table (30_encoding R191), as an unbounded sum. -/
def tableBase (g : Regs) : Nat → Nat
  | 0 => g.bx.toNat + g.si.toNat
  | 1 => g.bx.toNat + g.di.toNat
  | 2 => g.bp.toNat + g.si.toNat
  | 3 => g.bp.toNat + g.di.toNat
  | 4 => g.si.toNat
  | 5 => g.di.toNat
  | 6 => g.bp.toNat
  | _ => g.bx.toNat

/-- The default segment of row rm of the addressing table (30_encoding R191). -/
def tableSeg : Nat → SReg
  | 2 => .ss
  | 3 => .ss
  | 6 => .ss
  | _ => .ds

/-- PF as the parity rule says it: an even number of 1 bits in the low byte (40 R253). -/
def evenOnes {w : Nat} (r : BitVec w) : Bool := ((List.range 8).filter fun i => r.getLsbD i).length % 2 == 0

/-- ZF, SF and PF are those of the result `r` (10_state R73). -/
def zspOf {w : Nat} (fe : FlagEngine) (r : BitVec w) : Prop :=
  (fe.zf = true ↔ r.toNat = 0) ∧ (fe.sf = true ↔ r.toInt < 0) ∧ fe.pf = evenOnes r

/-- TF, IF and DF are as before. -/
def sameControl (a b : FlagEngine) : Prop := b.tf = a.tf ∧ b.if_ = a.if_ ∧ b.df = a.df

/-- The sources where CF, OF and AF are explicit and ZF, SF and PF derived (10_state R93). -/
def forcedSrcs : FlagSrcs := ⟨.explicit, .derived, .explicit, .derived, .derived, .explicit⟩

/-- Every flag but CF is the same. -/
def sameButCarry (a b : FlagEngine) : Prop :=
  b.pf = a.pf ∧ b.af = a.af ∧ b.zf = a.zf ∧ b.sf = a.sf ∧ b.tf = a.tf ∧ b.if_ = a.if_ ∧ b.df = a.df ∧ b.of_ = a.of_

/-- A record with CF explicit in it (10_state R93). -/
def carryExplicit (d : FlagRecord) : FlagRecord := { d with src := { d.src with cf := .explicit } }

/-- The first entry of a table of ROT_OF_MULTI or SHIFT_OF_MULTI for the arguments `k`, and `v` without one. -/
def entryOr {κ : Type} [DecidableEq κ] : List (κ × Bool) → κ → Bool → Bool
  | [], _, v => v
  | (j, b) :: t, k, v => if j = k then b else entryOr t k v

/-- OF after a rotate by exactly 1 with result `r` and new carry `cf` (43 R349). -/
def rotateOF {w : Nat} (k : RotateKind) (r : BitVec w) (cf : Bool) : Bool :=
  if k = .rol ∨ k = .rcl then cf != r.msb else r.msb != r.getLsbD (w - 2)

/-- What a rotate of `a` by the count `n`, of effective count `e`, gives: the bits of the result, CF, OF by its formula
or its table, the other flags kept, the record (43 R344 to R351). -/
def rotated {w : Nat} (p : Params) (old : FlagEngine) (k : RotateKind) (a : BitVec w) (n : Nat)
    (x : BitVec w × FlagEngine) (e : Nat) (bit : Nat → Bool) (cf : Bool) : Prop :=
  (∀ i < w, x.1.getLsbD i = bit i) ∧ x.2.cf = cf ∧
    (e = 1 ∨ p.rotOfMulti = .formula → x.2.of_ = rotateOF k x.1 cf) ∧
    (∀ l, e ≠ 1 → p.rotOfMulti = .table l →
      x.2.of_ = entryOr l ⟨k, widthTag w, a.toNat, e, old.cf⟩ (rotateOF k x.1 cf)) ∧
    x.2.sf = old.sf ∧ x.2.zf = old.zf ∧ x.2.pf = old.pf ∧ x.2.af = old.af ∧ sameControl old x.2 ∧
    x.2.record = ⟨a.toNat, n, x.1.toNat, widthTag w, .allExplicit⟩

/-- The flags of a shift of `a` by `n` ≥ 1 that follow from its result and CF, and the record with the raw result `raw`
(43 R364 to R366). -/
def shifted {w : Nat} (p : Params) (old : FlagEngine) (k : ShiftKind) (a : BitVec w) (n raw : Nat)
    (x : BitVec w × FlagEngine) : Prop :=
  zspOf x.2 x.1 ∧ sameControl old x.2 ∧
    (n = 1 ∧ (p.shiftOf1 = .doc ∨ k = .shl) ∨ n ≠ 1 ∧ p.shiftOfMulti = .formula → x.2.of_ = (x.2.cf != x.1.msb)) ∧
    (n = 1 → p.shiftOf1 = .hw → (k = .shr → x.2.of_ = a.msb) ∧ (k = .sar → x.2.of_ = false)) ∧
    (∀ l, n ≠ 1 → p.shiftOfMulti = .table l →
      x.2.of_ = entryOr l ⟨k, widthTag w, a.toNat, n⟩ (x.2.cf != x.1.msb)) ∧
    x.2.record = ⟨a.toNat, n, raw, widthTag w, .allExplicit⟩

/-- The five flags at their bits of the 8-bit image (10_state R75, R76). -/
def lowPlaces (b : Byte) (fe : FlagEngine) : Prop :=
  b.getLsbD 0 = fe.cf ∧ b.getLsbD 2 = fe.pf ∧ b.getLsbD 4 = fe.af ∧ b.getLsbD 6 = fe.zf ∧ b.getLsbD 7 = fe.sf

/-- The four flags in the upper byte of the 16-bit image (10_state R75). -/
def highPlaces (v : Word) (fe : FlagEngine) : Prop :=
  v.getLsbD 8 = fe.tf ∧ v.getLsbD 9 = fe.if_ ∧ v.getLsbD 10 = fe.df ∧ v.getLsbD 11 = fe.of_

/-- The state after a byte operation with result and flags `x`: the flags, and the destination unless it is CMP. -/
def aluDone8 (op : AluOp) (x : Byte × FlagEngine) (s : State) (rm : Rm Reg8) (t : State) : State :=
  if op = .cmp then t.setFlags x.2 else assign8 s rm x.1 (t.setFlags x.2)

/-- The state after a word operation with result and flags `x`. -/
def aluDone16 (op : AluOp) (x : Word × FlagEngine) (s : State) (rm : Rm Reg16) (t : State) : State :=
  if op = .cmp then t.setFlags x.2 else assign16 s rm x.1 (t.setFlags x.2)

/-- The law of a one-operand instruction on `r/m8`: it completes, or its write-back is refused. -/
def Unary8 (mk : Rm Reg8 → Instr) (g : BitVec 3) (f : Byte → FlagEngine → Byte × FlagEngine) : Prop :=
  ∀ rm s, fresh s → canRead8 s rm →
    (canWrite8 s rm →
      exec (mk rm) s =
        .next (assign8 s rm (f (operand8 s rm) s.fe).1 ((opened (modrm8 g rm) s).setFlags (f (operand8 s rm) s.fe).2))) ∧
      writeRefused (mk rm) s (opened (modrm8 g rm) s) rm

/-- The law of a one-operand instruction on `r/m16`: it completes, or its write-back is refused. -/
def Unary16 (mk : Rm Reg16 → Instr) (g : BitVec 3) (f : Word → FlagEngine → Word × FlagEngine) : Prop :=
  ∀ rm s, fresh s → canRead16 s rm →
    (canWrite16 s rm →
      exec (mk rm) s =
        .next (assign16 s rm (f (operand16 s rm) s.fe).1
          ((opened (modrm16 g rm) s).setFlags (f (operand16 s rm) s.fe).2))) ∧
      writeRefused (mk rm) s (opened (modrm16 g rm) s) rm

/-- The law of a division of AX: `n` and `d` are dividend and divisor read unsigned, `x` the quotient and the remainder,
`o` the state once the operand is decoded. -/
def DivLaw8 (i : Instr) (o s : State) (n d : Nat) (x : Option (Byte × Byte)) : Prop :=
  (∀ q r, x = some (q, r) →
      ∃ fe, exec i s = .next ((o.setFlags fe).setReg16 .ax (r ++ q)) ∧ sameControl s.fe fe ∧
        fe.record = ⟨n, d, q.toNat, .w8, .allExplicit⟩) ∧
    (x = none → exec i s = .next (handleFault .divideError o))

/-- The law of a division of DX:AX. -/
def DivLaw16 (i : Instr) (o s : State) (n d : Nat) (x : Option (Word × Word)) : Prop :=
  (∀ q r, x = some (q, r) →
      ∃ fe, exec i s = .next (((o.setFlags fe).setReg16 .ax q).setReg16 .dx r) ∧ sameControl s.fe fe ∧
        fe.record = ⟨n, d, q.toNat, .w16, .allExplicit⟩) ∧
    (x = none → exec i s = .next (handleFault .divideError o))

/-- A shift or rotate of `r/m8` by a raw count completes with the operation's result and flags, or its write-back is
refused. -/
def shiftLaw8 (i : Instr) (op : ShiftOp) (rm : Rm Reg8) (s : State) (count : Byte) : Prop :=
  let x := op.apply s.params (operand8 s rm) (count &&& s.params.countMask).toNat s.fe
  (canWrite8 s rm → exec i s = .next (assign8 s rm x.1 ((opened (modrm8 (shiftCode op) rm) s).setFlags x.2))) ∧
    writeRefused i s (opened (modrm8 (shiftCode op) rm) s) rm

/-- A shift or rotate of `r/m16` by a raw count completes with the operation's result and flags, or its write-back is
refused. -/
def shiftLaw16 (i : Instr) (op : ShiftOp) (rm : Rm Reg16) (s : State) (count : Byte) : Prop :=
  let x := op.apply s.params (operand16 s rm) (count &&& s.params.countMask).toNat s.fe
  (canWrite16 s rm → exec i s = .next (assign16 s rm x.1 ((opened (modrm16 (shiftCode op) rm) s).setFlags x.2))) ∧
    writeRefused i s (opened (modrm16 (shiftCode op) rm) s) rm

/-- AL and AH hold the given values modulo 256, and nothing but AX, the status flags and their record changed. -/
def adjusted (s t : State) (al ah : Nat) : Prop :=
  t.reg8 .al = BitVec.ofNat 8 al ∧ t.reg8 .ah = BitVec.ofNat 8 ah ∧ t.ip = s.ip ∧ framed s t [.ax] true []

/-- CF replaced and explicit in the record, nothing else changed (10_state R94). -/
def withCarry (s : State) (v : Bool) : State :=
  s.setFlags { s.fe with cf := v, record := { s.fe.record with src := { s.fe.record.src with cf := .explicit } } }

/-- A load of DS, ES or SS with `v`, `o` being the state just before the load: the register is `v`, or the fault of
SEG_LOAD_CHECK is handled with the register as it was (10_state R67). -/
def loadLaw (r : SReg) (i : Instr) (s o : State) (v : Word) : Prop :=
  (s.hooks.segLoadFault r v = none → exec i s = .next (o.setSReg r v)) ∧
    ∀ f, s.hooks.segLoadFault r v = some f → exec i s = .next (handleFault f o)

/-- The port bus after one byte is read from a port: a scripted answer for it is used up. -/
def afterRead (p : Ports) (port : Word) : Ports :=
  { p with inputs := p.inputs.eraseP fun e => e.1 == port, reads := p.reads + 1 }

/-- The machine after bytes are written to ports, in order. -/
def sentPort (s : State) (l : List (Word × Byte)) : State :=
  { s with ports := { s.ports with outputs := s.ports.outputs ++ l } }

/-- IN of one byte. -/
def inByte (i : Instr) (s : State) (port : Word) : Prop :=
  exec i s = .next ({ s with ports := afterRead s.ports port }.setReg8 .al (s.ports.answer port))

/-- IN of one word. -/
def inWord (i : Instr) (s : State) (port : Word) : Prop :=
  let p := afterRead s.ports port
  exec i s =
    .next ({ s with ports := afterRead p (port + 1) }.setReg16 .ax (p.answer (port + 1) ++ s.ports.answer port))

/-- The words PUSHA pushes, in order (47 R490). -/
def pushaWords (s : State) : List Word :=
  [s.regs.ax, s.regs.cx, s.regs.dx, s.regs.bx, s.regs.sp, s.regs.bp, s.regs.si, s.regs.di]

/-- The registers POPA loads, in order; the image of SP is discarded (47 R491). -/
def popaOrder : List (Option Reg16) :=
  [some .di, some .si, some .bp, none, some .bx, some .dx, some .cx, some .ax]

/-- The state after words are popped into registers, one after another, or discarded. -/
def poppedAll : List (Option Reg16) → State → State
  | [], s => s
  | some r :: l, s => poppedAll l ((s.setSP (s.regs.sp + 2)).setReg16 r (stacked s 0))
  | none :: l, s => poppedAll l (s.setSP (s.regs.sp + 2))

/-- The value a PUSH of a register writes (47 R482). -/
def pushValue (r : Reg16) (s : State) : Word :=
  match r with
  | .sp => if s.params.pushSpNew then s.regs.sp - 2 else s.regs.sp
  | r => s.reg16 r

/-- `k` words copied to the stack from below `bp`, each read 2 below the last and pushed before the next is read (47
R492). -/
def framesCopied : Nat → Word → State → State
  | 0, _, s => s
  | k + 1, bp, s => framesCopied k (bp - 2) (pushed (s.wordAt s.sregs.ss (bp - 2)) s)

/-- The push of BP and `k` copies of ENTER can be made. -/
def copiesOpen (s : State) (k : Nat) : Prop :=
  canPushAll s (k + 1) ∧ ∀ i < k, readable16 s s.sregs.ss (s.regs.bp - BitVec.ofNat 16 (2 * (i + 1)))

/-- The law of a conditional jump: taken exactly when the flags meet the condition. -/
def jcc (mk : Byte → Instr) (c : FlagEngine → Prop) : Prop :=
  ∀ (rel : Byte) (s : State), (c s.fe → exec (mk rel) s = .next (s.setIP (s.ip + rel.signExtend 16))) ∧
    (¬c s.fe → exec (mk rel) s = .next s)

/-- The law of a LOOP instruction: CX down by 1, the jump taken when it is not 0 and the condition holds. -/
def loops (mk : Byte → Instr) (c : FlagEngine → Prop) : Prop :=
  ∀ (rel : Byte) (s : State),
    let t := s.setReg16 .cx (s.regs.cx - 1)
    (s.regs.cx ≠ 1 ∧ c s.fe → exec (mk rel) s = .next (t.setIP (s.ip + rel.signExtend 16))) ∧
      (¬(s.regs.cx ≠ 1 ∧ c s.fe) → exec (mk rel) s = .next t)

/-- The pushes of a far CALL refused, `o` being the state once its pointer is read: at the push of CS, and at that of
IP with CS pushed (48 R527, 60 R651). -/
def farPushFaults (i : Instr) (s o : State) : Prop :=
  ∀ f t, (pushRefused o o.sregs.cs f t → exec i s = .next (handleFault f t)) ∧
    (canPush o → pushRefused (pushed o.sregs.cs o) o.ip f t → exec i s = .next (handleFault f t))

/-- The state `t` with the pointers of `s` moved past an element of `n` bytes by the direction flag of `s` (49 R562). -/
def moved (s : State) (n : Word) (si di : Bool) (t : State) : State :=
  let past (p : Word) : Word := if s.fe.df then p - n else p + n
  { t with
    regs :=
      { t.regs with
        si := if si then past s.regs.si else t.regs.si
        di := if di then past s.regs.di else t.regs.di } }

/-- The law of the repeat prefixes for a string instruction with one-element body `body` (49 R570 to R574). -/
def repeats (i : Instr) (body : State → Res Unit) (compares : Bool) : Prop :=
  ∀ s : State, s.rep ≠ .none →
    (s.regs.cx = 0 → exec i s = .next s) ∧
      (∀ t, s.regs.cx ≠ 0 → body s = .ok () t →
        let u := t.setReg16 .cx (s.regs.cx - 1)
        let stops := compares = true ∧ ((s.rep = .rep ∧ t.fe.zf = false) ∨ (s.rep = .repNe ∧ t.fe.zf = true))
        (stops → exec i s = .next u) ∧ (¬stops → exec i s = exec i u)) ∧
      ∀ f t, s.regs.cx ≠ 0 → body s = .raise f t → exec i s = .next (handleFault f t)

/-- The offset of element `k` of a byte string that starts at `p`, in the direction of DF. -/
def stringOff (s : State) (p : Word) (k : Nat) : Word :=
  if s.fe.df then p - BitVec.ofNat 16 k else p + BitVec.ofNat 16 k

/-- The byte source element of a string instruction can be read. -/
def elementRead8 (s : State) : Prop := readable8 s (s.segmentOr .ds) s.regs.si

/-- The word source element of a string instruction can be read. -/
def elementRead16 (s : State) : Prop := readable16 s (s.segmentOr .ds) s.regs.si

/-- The byte destination element of a string instruction can be written. -/
def elementWrite8 (s : State) : Prop := writable8 s s.sregs.es s.regs.di

/-- The word destination element of a string instruction can be written. -/
def elementWrite16 (s : State) : Prop := writable16 s s.sregs.es s.regs.di

/-- The bus address of the byte destination element of a string instruction. -/
def element8 (s : State) : List Nat := [busAddr s.bus.map s.sregs.es s.regs.di]

/-- The bus addresses of the word destination element of a string instruction. -/
def element16 (s : State) : List Nat := wordCells s s.sregs.es s.regs.di

/-- Two words can be pushed. -/
def canPushTwo (s : State) : Prop := canPush s ∧ writable16 s s.sregs.ss (s.regs.sp - 4)

/-- The bus addresses of the two words a far call writes. -/
def twoStackCells (s : State) : List Nat :=
  wordCells s s.sregs.ss (s.regs.sp - 2) ++ wordCells s s.sregs.ss (s.regs.sp - 4)

/-- A far return can take its two words, and its selector is executable. -/
def canReturnFar (s : State) : Prop := canPop s 0 ∧ canPop s 2 ∧ s.bus.isExecutable (stacked s 2) = true

/-- The bus addresses of the word a push writes. -/
def stackCells (s : State) : List Nat := wordCells s s.sregs.ss (s.regs.sp - 2)

end Sys2Proof.Claims

open Sys2Proof Sys2Proof.Machine Sys2Proof.Claims

/-- For every well-formed instruction, with every operand at every value, and every list of bytes after it, the
decoder reads exactly that instruction from its encoding and leaves the bytes after it. Cites
spec/30_encoding.md sections 3 to 6, spec/opcode_table.json. -/
def Obligations.DecodeOfEncode : Prop :=
  ∀ (i : Instr) (rest : List Byte), i.wf = true → decode (encode i ++ rest) = .ok (i, rest)

/-- Whenever the decoder reads an instruction from some bytes and leaves a rest, the instruction is well-formed and
its encoding followed by the rest is those bytes: no bit of an encoding is dropped or read twice. Cites
spec/30_encoding.md sections 3 to 6, spec/opcode_table.json. -/
def Obligations.EncodeOfDecode : Prop :=
  ∀ (bytes : List Byte) (i : Instr) (rest : List Byte),
    decode bytes = .ok (i, rest) → i.wf = true ∧ encode i ++ rest = bytes

/-- Of a list of six bytes or more, whatever they are, the decoder reads an instruction exactly when opcode and
ModRM byte are not on the list of R220: the eight opcodes without a row, the invalid cells of the group table of
R199, 8C and 8E with a reg field of 4 or more, the register forms of LEA, LES, LDS, BOUND and the far indirect
FF forms. The list rests on the decision D36 of the spec. Cites spec/30_encoding.md section 7,
spec/30_encoding.md section 4. -/
def Obligations.InvalidEncodings : Prop :=
  ∀ (op m a b c d : Byte) (rest : List Byte),
    (∃ i u, decode (op :: m :: a :: b :: c :: d :: rest) = .ok (i, u)) ↔ invalidEncoding op m = false

/-- Nine byte sequences that the spec prints in its worked examples decode to the instruction the spec says they
are: ADD AL, BL; NEG BX; IMUL AX, BX, -3; SHL AX, 4; MOV AX, [BP-2]; LEA AX, [BX+SI+5]; PUSH word [0x0200]; JMP
far 0x2000:0x0100; ENTER 16, 0. Cites spec/40_alu_arith.md section 3, spec/42_alu_muldiv.md section 2,
spec/43_alu_shift_rotate.md section 4, spec/46_operand_access_moves.md sections 2 and 3, spec/47_stack.md
sections 2 and 5, spec/48_control_transfer.md section 2. -/
def Obligations.SampleWords : Prop :=
  decode [0x00, 0xD8] = .ok (.addRm8R8 (.reg .al) .bl, []) ∧
    decode [0xF7, 0xDB] = .ok (.negRm16 (.reg .bx), []) ∧
    decode [0x6B, 0xC3, 0xFD] = .ok (.imulR16Rm16Imm8s .ax (.reg .bx) 0xFD, []) ∧
    decode [0xC1, 0xE0, 0x04] = .ok (.shlRm16Imm8 (.reg .ax) 4, []) ∧
    decode [0x8B, 0x46, 0xFE] = .ok (.movR16Rm16 .ax (.mem (.disp8 .bp 0xFE)), []) ∧
    decode [0x8D, 0x40, 0x05] = .ok (.leaR16M .ax (.disp8 .bxSi 5), []) ∧
    decode [0xFF, 0x36, 0x00, 0x02] = .ok (.pushRm16 (.mem (.direct 0x0200)), []) ∧
    decode [0xEA, 0x00, 0x01, 0x00, 0x20] = .ok (.jmpFarDirect 0x0100 0x2000, []) ∧
    decode [0xC8, 0x10, 0x00, 0x00] = .ok (.enterImm16Imm8 0x0010 0, [])

/-- In a state that is neither fatal nor halted, when the bytes at CS:IP are readable and are the encoding of a
well-formed instruction that is no prefix and that no parameter refuses, the step is that instruction at the
state with the slot begun and IP after its bytes, followed by the end of the slot. Cites spec/60_exceptions.md
section 5, spec/30_encoding.md sections 1 and 2. -/
def Obligations.StepRunsDecodedInstruction : Prop :=
  ∀ (s : State) (i : Instr), s.fatal = none → s.halted = false → i.wf = true → i.isPrefix = false →
    codeIs s (encode i) → admitted s.params (encode i) →
    step s = slotEnd (exec i (fetched s (encode i).length))

/-- When up to 65535 prefix bytes stand at CS:IP before the encoding of an instruction that is no prefix, one step
runs that instruction with the prefix state they set: a later segment override or repeat prefix replaces an
earlier one, LOCK only sets its bit, and no parameter refuses a prefix byte; IP is after the whole instruction
and the latch ip_start at the first prefix byte. Cites spec/30_encoding.md section 2, spec/60_exceptions.md
section 5. -/
def Obligations.PrefixesFoldIntoTheSlot : Prop :=
  ∀ (s : State) (ps : List Instr) (i : Instr), s.fatal = none → s.halted = false → (∀ p ∈ ps, p.isPrefix = true) →
    ps.length < slotFuel → i.wf = true → i.isPrefix = false →
    codeIs s (ps.flatMap encode ++ encode i) →
    admitted s.params (encode i) →
    step s = slotEnd (exec i (prefixRun ps (fetched s (ps.length + (encode i).length))))

/-- In a state that is neither fatal nor halted, up to 65535 prefix bytes and then an invalid encoding at CS:IP make
the step dispatch the fault InvalidOpcode, with the prefix state set and IP at the first prefix byte when REWIND
holds. Invalid by its opcode byte is one of the eight opcodes without a row, ESC and WAIT under ESC_BEHAVIOUR =
invalid, or an opcode a parameter adds; IP without REWIND is then after that byte. Invalid by its ModRM byte is
an encoding on the list of R220, or a pair a parameter adds. For FE 2 to 7, FF 7, F6 and F7 1 and an added pair
of the table the verdict needs no byte after the ModRM byte: IP without REWIND is then after it, whatever the
bus says of the displacement, and the operand cache is empty. For the others, whose rules decode the operand
first, it is after the displacement, and the operand cache holds the decode of that ModRM byte. Of the encodings
of the list that the host has taken out of INVALID_OPCODES: shift group 6 runs as SHL and F6 and F7 1 as TEST
with the operand decoded; 0F pops the word at SS:SP into CS, or raises NonExecutableSegment with SP moved; those
whose own rule checks reg or mod still raise InvalidOpcode; 63 to 67, D6, F1, FE 2 to 7 and FF 7 have no effect
in the spec, and the step refuses them by name. The form of INVALID_OPCODES and what the admitted encodings do
is log 9 of the model, the place of the verdict of the others and the cache written before it log 11, the fields
a register form keeps in the cache log 13, SP moved before CS is checked log 24. Cites spec/30_encoding.md
sections 2, 4 and 7, spec/60_exceptions.md sections 1, 4 and 5, spec/46_operand_access_moves.md sections 1 and
2, spec/47_stack.md section 3, spec/10_state.md section 2. -/
def Obligations.InvalidOpcodeIsDispatched : Prop :=
  (∀ (s : State) (ps : List Instr) (op : Byte), opensSlot s ps → codeIs s (ps.flatMap encode ++ [op]) →
      let o := prefixRun ps (fetched s (ps.length + 1))
      (opcodeRefused s.params op = true ∨ (op ∈ rowless ∧ takenOut s.params [op] = false) → invalidAt s o) ∧
        (opcodeRefused s.params op = false → op ∈ rowless → takenOut s.params [op] = true →
          (op ≠ 0x0F → step s = .refused .encodingWithoutMeaning) ∧
            (op = 0x0F → canPop o 0 →
              let u := o.setSP (o.regs.sp + 2)
              let v := stacked o 0
              (o.bus.isExecutable v = true → step s = .next (endSlot (u.setSReg .cs v))) ∧
                (o.bus.isExecutable v = false →
                  step s = .next (endSlot (handleFault (.nonExecutableSegment v) u)))))) ∧
    (∀ (s : State) (ps : List Instr) (op m : Byte), opensSlot s ps → codeIs s (ps.flatMap encode ++ [op, m]) →
      (opShape op.toNat).hasModRM = true → opcodeRefused s.params op = false →
      (pairRefused s.params op m = true ∧ (invalidEncoding op m = false ∨ atDispatch op m) →
          invalidAt s (prefixRun ps (fetched s (ps.length + 2)))) ∧
        (atDispatch op m → takenOut s.params [op, m] = false →
          invalidAt s (prefixRun ps (fetched s (ps.length + 2)))) ∧
        (pairRefused s.params op m = false → invalidEncoding op m = true → takenOut s.params [op, m] = true →
          op = 0xFE ∨ (op = 0xFF ∧ m.toNat / 8 % 8 = 7) → step s = .refused .encodingWithoutMeaning)) ∧
    (∀ (s : State) (ps : List Instr) (op m : Byte) (disp : List Byte) (g : BitVec 3) (rm : Rm (BitVec 3)),
      opensSlot s ps → codeIs s (ps.flatMap encode ++ op :: m :: disp) → readModRM (m :: disp) = some (g, rm, []) →
      (opShape op.toNat).hasModRM = true → opcodeRefused s.params op = false →
      invalidEncoding op m = true → ¬atDispatch op m →
      pairRefused s.params op m = true ∨ takenOut s.params [op, m] = false ∨ ownCheck op g →
      invalidAt s (opened ⟨g, rm⟩ (prefixRun ps (fetched s (ps.length + 2 + disp.length))))) ∧
    ∀ (s : State) (ps : List Instr) (op : Byte) (g : BitVec 3) (rm : Rm (BitVec 3)) (imm : List Byte) (i : Instr),
      let m := modrmByte rm.modField g rm.rmField
      opensSlot s ps → rm.wf = true → codeIs s (ps.flatMap encode ++ op :: (modrmBytes g rm ++ imm)) →
      opcodeRefused s.params op = false → pairRefused s.params op m = false → takenOut s.params [op, m] = true →
      admittedRow op g rm imm = some i →
      step s =
        slotEnd (exec i (opened ⟨g, rm⟩
          (prefixRun ps (fetched s (ps.length + 1 + (modrmBytes g rm ++ imm).length)))))

/-- With a fatal reason set, the step is the fault that carries it. Otherwise a halted state is its own next state,
except with HALT_WAKE_ON_IRQ, IF set and a request pending: then the step leaves Halted, empties the slot and
dispatches the request. That the halted machine is a step of its own is the choice of log 15 of the model, the
abort request a callback of the dispatch may make log 30. Cites spec/60_exceptions.md sections 4 and 5,
spec/10_state.md section 7.4. -/
def Obligations.FatalAndHaltedSteps : Prop :=
  (∀ (s : State) (r : FatalReason), s.fatal = some r → step s = .fault (.fatalStop r)) ∧
    (∀ s : State, s.fatal = none → s.halted = true →
      (s.params.haltWakeOnIrq = false ∨ s.fe.if_ = false ∨ s.pending = none) → step s = .next s) ∧
    ∀ (s : State) (n : Byte), s.fatal = none → s.halted = true → s.params.haltWakeOnIrq = true → s.fe.if_ = true →
      s.pending = some n →
      step s = .next (dispatch n .hardware none { s.callbackAbort with halted := false, pending := none })

/-- When the host claims the interrupt, Dispatch is what the hook left: no vector is read and nothing is pushed. The
hook's next answer says whether it claims, its writes made; without a hook, or with no answer left, nothing is
claimed. Not claimed, with the vector entry readable and not null, the three stack words writable and the
handler's selector executable, Dispatch leaves: SP 6 lower and every other general register as before; CS and IP
the vector's; IF clear, TF clear only under DISPATCH_CLEARS_TF, the other flags as before; in memory in its
canonical form, the old IP at SS:SP, the old CS at SS:SP+2, the flag image with the old IF at SS:SP+4, and every
other byte as before; the other segment registers and the machinery as before. The scripted hook is log 8 of the
model, its writes whatever it answers log 27. Cites spec/60_exceptions.md section 2, spec/47_stack.md section 1. -/
def Obligations.DispatchEntersHandler : Prop :=
  (∀ (s u : State) (n : Byte) (k : IntKind) (c : Option CpuFault), hostClaims s = (true, u) → dispatch n k c s = u) ∧
    (∀ (s : State) (a : HookAnswer) (l : List HookAnswer), s.hooks.hostInt = some (a :: l) →
      hostClaims s = (a.yes, applyWrites a.writes { s with hooks := { s.hooks with hostInt := some l } })) ∧
    (∀ s : State, s.hooks.hostInt = none ∨ s.hooks.hostInt = some [] → hostClaims s = (false, s)) ∧
    ∀ (s u : State) (n : Byte) (k : IntKind) (c : Option CpuFault), hostClaims s = (false, u) →
      vectorReadable u n → (vectorOff u n ≠ 0 ∨ vectorSel u n ≠ 0) → frameWritable u →
      u.bus.isExecutable (vectorSel u n) = true → u.mem.wf →
      let t := dispatch n k c s
      t.regs = { u.regs with sp := u.regs.sp - 6 } ∧ t.sregs = { u.sregs with cs := vectorSel u n } ∧
        t.ip = vectorOff u n ∧
        t.fe = { u.fe with if_ := false, tf := u.fe.tf && !u.params.dispatchClearsTf } ∧
        stacked t 0 = u.ip ∧ stacked t 2 = u.sregs.cs ∧ stacked t 4 = flagsImage16 u.params u.fe ∧
        (∀ seg off, busAddr u.bus.map seg off ∉ frameCells u → t.byteAt seg off = u.byteAt seg off) ∧
        sameMachinery u t ∧ t.ports = u.ports ∧ t.doc = u.doc

/-- A dispatch the host claims is not fatal: it is what the hook left. Not claimed: a vector entry that reads as two
zero words sets the sticky fatal reason NoHandler with the number, the kind, the fault being delivered, CS and
ip_start, and changes nothing else. A bus fault on any of the four bytes of the vector entry makes the dispatch
fatal with nothing else changed. A bus fault on one of the three pushes, of the flag image, CS and IP, makes it
fatal with the pushes before it made and nothing else changed, but for the first byte of a word refused at its
second. A handler in a segment that is not executable makes it fatal with IP, CS and the flag image at SS:SP,
SS:SP+2 and SS:SP+4, in memory in its canonical form, every other byte as before, SP 6 lower, IF clear, TF clear
only under DISPATCH_CLEARS_TF, and CS, IP, the other flags and registers and the machinery as before. Which
fields the fatal record holds (the cause, CS and ip_start) is log 21 of the model, that a fatal dispatch is a
next state with its reason set log 14, the byte a half refused push leaves log 10. Cites spec/60_exceptions.md
sections 1, 2 and 4, spec/47_stack.md section 1, spec/20_memory.md section 1. -/
def Obligations.FatalDispatches : Prop :=
  (∀ (s u : State) (n : Byte) (k : IntKind) (c : Option CpuFault), hostClaims s = (true, u) → dispatch n k c s = u) ∧
    ∀ (s u : State) (n : Byte) (k : IntKind) (c : Option CpuFault), hostClaims s = (false, u) →
      let stopped (w : FatalWhy) (t : State) : State := { t with fatal := some ⟨w, n, k, c, u.sregs.cs, u.ipStart⟩ }
      let words : List Word := [flagsImage16 u.params u.fe, u.sregs.cs, u.ip]
      (vectorReadable u n → vectorOff u n = 0 → vectorSel u n = 0 → dispatch n k c s = stopped .noHandler u) ∧
        (∀ (j : Nat) (f : CpuFault), j < 4 →
          (∀ i < j, readable8 u u.params.ivtSel (4 * zext8 n + BitVec.ofNat 16 i)) →
          u.bus.refusal false u.params.ivtSel (4 * zext8 n + BitVec.ofNat 16 j) = some f →
          dispatch n k c s = stopped (.dispatchFault f) u) ∧
        (vectorReadable u n → (vectorOff u n ≠ 0 ∨ vectorSel u n ≠ 0) →
          ∀ (j : Nat) (v : Word) (f : CpuFault) (t : State), words[j]? = some v → canPushAll u j →
            pushRefused (pushedAll (words.take j) u) v f t → dispatch n k c s = stopped (.dispatchFault f) t) ∧
        (vectorReadable u n → (vectorOff u n ≠ 0 ∨ vectorSel u n ≠ 0) → frameWritable u →
          u.bus.isExecutable (vectorSel u n) = false →
          let t := dispatch n k c s
          t.fatal = some ⟨.dispatchFault (.nonExecutableSegment (vectorSel u n)), n, k, c, u.sregs.cs, u.ipStart⟩ ∧
            t.sregs = u.sregs ∧ t.ip = u.ip ∧ t.regs = { u.regs with sp := u.regs.sp - 6 } ∧
            t.fe = { u.fe with if_ := false, tf := u.fe.tf && !u.params.dispatchClearsTf } ∧
            (u.mem.wf → stacked t 0 = u.ip ∧ stacked t 2 = u.sregs.cs ∧ stacked t 4 = flagsImage16 u.params u.fe ∧
              ∀ seg off, busAddr u.bus.map seg off ∉ frameCells u → t.byteAt seg off = u.byteAt seg off) ∧
            sameMachinery u { t with fatal := u.fatal } ∧ t.ports = u.ports ∧ t.doc = u.doc)

/-- With the parameters at their defaults, HandleFault of each of the six fault kinds is the dispatch of vector 0,
5, 6, 11, 13 or 13 as a fault, at the state with IP put back to ip_start and nothing else undone. The numbers
are the decisions D21 and D22 of the spec. Cites spec/60_exceptions.md sections 1 and 4. -/
def Obligations.FaultVectorsAndRewind : Prop :=
  ∀ (s : State) (sel : Word), s.params = defaultParams →
    let b := s.setIP s.ipStart
    handleFault .divideError s = dispatch 0 .fault (some .divideError) b ∧
      handleFault .boundRange s = dispatch 5 .fault (some .boundRange) b ∧
      handleFault .invalidOpcode s = dispatch 6 .fault (some .invalidOpcode) b ∧
      handleFault .segmentNotPresent s = dispatch 11 .fault (some .segmentNotPresent) b ∧
      handleFault .generalProtection s = dispatch 13 .fault (some .generalProtection) b ∧
      handleFault (.nonExecutableSegment sel) s = dispatch 13 .fault (some (.nonExecutableSegment sel)) b

/-- With memory in its canonical form and the stack words writable and readable: RET after a near CALL, direct or
indirect, continues at the byte after the CALL with SP restored; RETF after a far CALL, direct or indirect,
restores CS, IP and SP when the old CS is executable; RET n and RETF n do the same with SP higher by n. IRET
after an INT n, an INT3 or, with OF set, an INTO that entered its handler restores the segment registers, IP,
every general register and all nine flags, when the old CS is executable and FLAGS_FIXED_ONES has no bit of a
flag. Cites spec/48_control_transfer.md section 7, spec/60_exceptions.md section 3. -/
def Obligations.ReturnsUndoCalls : Prop :=
  (∀ (s t : State) (i : Instr) (n : Word), s.mem.wf → canPush s → readable16 s s.sregs.ss (s.regs.sp - 2) →
      nearCall i s → exec i s = .next t →
      (∃ u, exec .ret t = .next u ∧ u.ip = s.ip ∧ u.regs = s.regs ∧ u.sregs = s.sregs ∧ u.fe = s.fe) ∧
        ∃ u, exec (.retImm16 n) t = .next u ∧ u.ip = s.ip ∧ u.regs = { s.regs with sp := s.regs.sp + n } ∧
          u.sregs = s.sregs ∧ u.fe = s.fe) ∧
    (∀ (s t : State) (i : Instr) (n : Word), s.mem.wf → farFrameOpen s → s.bus.isExecutable s.sregs.cs = true →
      farCall i s → exec i s = .next t →
      (∃ u, exec .retf t = .next u ∧ u.ip = s.ip ∧ u.regs = s.regs ∧ u.sregs = s.sregs ∧ u.fe = s.fe) ∧
        ∃ u, exec (.retfImm16 n) t = .next u ∧ u.ip = s.ip ∧ u.regs = { s.regs with sp := s.regs.sp + n } ∧
          u.sregs = s.sregs ∧ u.fe = s.fe) ∧
    ∀ (s t : State) (i : Instr) (n : Byte), s.mem.wf → s.hooks.debug = none → s.hooks.hostInt = none →
      vectorReadable s n → (vectorOff s n ≠ 0 ∨ vectorSel s n ≠ 0) → frameWritable s → frameReadable s →
      s.bus.isExecutable (vectorSel s n) = true → s.bus.isExecutable s.sregs.cs = true →
      s.params.flagsFixedOnes &&& 0x0FD5 = 0 → interrupts i s n → exec i s = .next t →
      ∃ u, exec .iret t = .next u ∧ u.ip = s.ip ∧ u.regs = s.regs ∧ u.sregs = s.sregs ∧ sameFlags s.fe u.fe

/-- When the instruction of a slot ends in a state that is not fatal, the step ends with the interrupt check of that
state: with IF set there and a request pending, the pending slot is emptied and the interrupt is dispatched as a
hardware interrupt at that state, whose IP is that of the next instruction; with IF clear the request stays
pending; without a request nothing happens. Cites R640. -/
def Obligations.InterruptCheckEndsEverySlot : Prop :=
  ∀ s u : State, s.fatal = none → s.halted = false → slotBody slotFuel (beginSlot s) = .next u → u.fatal = none →
    (∀ n, u.fe.if_ = true → u.pending = some n →
      step s = .next (dispatch n .hardware none { u with pending := none })) ∧
      (u.fe.if_ = false → step s = .next u) ∧ (u.pending = none → step s = .next u)

/-- RaiseHardwareInterrupt fills an empty slot; a full one is overwritten, kept, or the call is an error, as
PENDING_POLICY says. RaiseInterruptNow dispatches at once; Resume clears halted alone; the host redirects both
buses. Run returns Fatal with a fatal reason set; Halted when halted and not woken, whatever the budget. Woken,
it delivers the request and goes on, or returns Fatal. BudgetExhausted for a budget of 0; Aborted, with the
request cleared, when one stands; DebuggerStop when the hook answers no, its writes made; otherwise one step,
then Fatal, or Run with a budget one lower. An abort request that a callback makes inside a slot stands after
it, and Run then returns Aborted. The marks behind it are of the model: what Run does around step, the budget
being N before it wakes, is log 28, the error of PENDING_POLICY log 25, the writes a hook makes whatever it
answers log 27, the wake-up log 15, the scripted hook log 8, the count that redirected ports keep log 5, the
script of callbacks log 30. Cites spec/60_exceptions.md sections 3 and 5, spec/70_reset_and_hazards.md sections
2 and 3, spec/10_state.md section 7.4. -/
def Obligations.HostCallsAndRun : Prop :=
  (∀ (n : Byte) (s : State), s.pending = none → s.raiseHardwareInterrupt n = some { s with pending := some n }) ∧
    (∀ (n m : Byte) (s : State), s.pending = some m →
      s.raiseHardwareInterrupt n =
        match s.params.pendingPolicy with
        | .overwrite => some { s with pending := some n }
        | .keepFirst => some s
        | .forbidden => none) ∧
    (∀ (n : Byte) (s : State), s.raiseInterruptNow n = dispatch n .software none s.callbackAbort) ∧
    (∀ s : State, s.resume = { s with halted := false } ∧ s.requestAbort = { s with abortRequested := true }) ∧
    (∀ (s : State) (b : Bus) (m : Memory) (p : Ports), s.redirectBus b m = { s with bus := b, mem := m } ∧
      s.redirectPorts p = { s with ports := { p with reads := s.ports.reads } }) ∧
    (∀ (n : Nat) (s : State) (r : FatalReason), s.fatal = some r → run n s = (.fatal r, s)) ∧
    (∀ (n : Nat) (s : State), s.fatal = none → s.halted = true →
      (s.params.haltWakeOnIrq = false ∨ s.fe.if_ = false ∨ s.pending = none) →
      run n s = (.halted, { s with budget := n })) ∧
    (∀ (n : Nat) (v : Byte) (s : State), s.fatal = none → s.halted = true → s.params.haltWakeOnIrq = true →
      s.fe.if_ = true → s.pending = some v →
      let t := dispatch v .hardware none { s.callbackAbort with halted := false, pending := none, budget := n }
      (∀ r, t.fatal = some r → run n s = (.fatal r, t)) ∧ (t.fatal = none → run n s = runLoop n t)) ∧
    (∀ s : State, s.fatal = none → s.halted = false → run 0 s = (.budgetExhausted, { s with budget := 0 })) ∧
    (∀ (n : Nat) (s : State), s.fatal = none → s.halted = false → s.abortRequested = true →
      run (n + 1) s = (.aborted, { s with budget := n + 1, abortRequested := false })) ∧
    (∀ (n : Nat) (s : State), runs s →
      (s.hooks.debug = none ∨ (∃ l, s.hooks.debug = some ⟨[], l⟩) →
        ∀ t, step { s with budget := n + 1 } = .next t → run (n + 1) s = afterStep n t) ∧
        ∀ a l c, s.hooks.debug = some ⟨a :: l, c⟩ →
          let u := applyWrites a.writes
            { s with budget := n + 1, hooks := { s.hooks with debug := some ⟨l, c⟩ } }
          (a.yes = false → run (n + 1) s = (.debuggerStop, u)) ∧
            (a.yes = true → ∀ t, step u = .next t → run (n + 1) s = afterStep n t)) ∧
    ∀ (n : Nat) (s t : State) (l : List Bool), runs s → s.hooks.debug = none → s.hooks.hostInt = none →
      s.callbackAborts = true :: l → step { s with budget := n + 2 } = .next t →
      t.abortRequested = true ∧ t.callbackAborts = l ∧
        (t.fatal = none → t.halted = false →
          run (n + 2) s = (.aborted, { t with budget := n + 1, abortRequested := false }))

/-- After Reset of any state each register, flag and latch has the value that parameter RESET gives it; with RESET
at its default the general registers, the segment registers, IP and ip_start are 0, the nine flags false and
explicit, the flag image is FLAGS_FIXED_ONES, the operand cache is invalid, no prefix, request or fatal reason
is set, halted and abort_requested are false and the budget is 0. Memory, ports, bus, parameters and hooks are
as before. The state right after reset that the model names has the default values. They are the decision D7 of
the spec; that the count of draws goes on is log 4 of the model. Cites spec/10_state.md section 8,
spec/70_reset_and_hazards.md section 1. -/
def Obligations.ResetValues : Prop :=
  (∀ s : State, launched s.launch s.hostReset ∧ (s.launch = defaultLaunch → resetLike s.hostReset) ∧
      s.hostReset.fe.draws = s.fe.draws ∧ s.hostReset.mem = s.mem ∧ s.hostReset.ports = s.ports ∧
      s.hostReset.bus = s.bus ∧ s.hostReset.params = s.params ∧ s.hostReset.launch = s.launch ∧
      s.hostReset.hooks = s.hooks ∧ s.hostReset.callbackAborts = s.callbackAborts) ∧
    State.reset.launch = defaultLaunch ∧ resetLike State.reset ∧ flagsImage16 State.reset.params State.reset.fe = 0x0002

/-- For every state with the invariant, reachable or not, whatever instruction, fault, interrupt or host hook the
step runs, a next state has it too: memory is in its canonical form, and every flag the record marks derived
equals what the record's operands, raw result and width yield for it. How overflow is yielded without an
operation tag is log 12 of the model. Cites spec/10_state.md section 7.1, spec/20_memory.md section 1. -/
def Obligations.StepKeepsInvariant : Prop :=
  ∀ s t : State, s.Inv → step s = .next t → t.Inv

/-- Memory right after reset is in its canonical form and its flag record agrees with its flags. Cites
spec/10_state.md section 8. -/
def Obligations.ResetHasInvariant : Prop :=
  State.reset.Inv

/-- With p = i mod 4: reading byte register i gives the low byte of word register p when i < 4 and its high byte
otherwise; writing it replaces that half of word register p, keeps the other half, and leaves every other word
register as it was. Cites R54. -/
def Obligations.ByteRegistersAlias : Prop :=
  ∀ (s : State) (r : Reg8) (v : Byte),
    let p := Reg16.ofNum (BitVec.ofNat 3 (r.num.toNat % 4))
    (s.reg8 r = if r.num.toNat < 4 then (s.reg16 p).extractLsb' 0 8 else (s.reg16 p).extractLsb' 8 8) ∧
      (s.setReg8 r v).reg16 p =
        (if r.num.toNat < 4 then (s.reg16 p).extractLsb' 8 8 ++ v else v ++ (s.reg16 p).extractLsb' 0 8) ∧
      ∀ q, q ≠ p → (s.setReg8 r v).reg16 q = s.reg16 q

/-- Reading a word whose two bytes can be read gives high byte and low byte of the word, the byte at the lower
offset being the low one, offset 0xFFFF followed by 0x0000 of the same selector, and changes nothing; a read
refused at either byte changes nothing. Writing one makes it read back, in memory in its canonical form, and
leaves every other byte as it was. Where the bus refuses the first byte of a write, nothing is written; where it
refuses the second, the first stays written, which is log 10 of the model. Cites spec/20_memory.md sections 1
and 2. -/
def Obligations.WordAccessIsTwoBytes : Prop :=
  (∀ (s : State) (seg off : Word), readable16 s seg off →
      memRead16 seg off s = .ok (s.byteAt seg (off + 1) ++ s.byteAt seg off) s) ∧
    (∀ (s : State) (seg off : Word) (f : CpuFault), wordReadRefused s seg off f → memRead16 seg off s = .raise f s) ∧
    (∀ (s : State) (seg off v : Word), s.mem.wf → writable16 s seg off →
      ∃ t, memWrite16 seg off v s = .ok () t ∧ t.byteAt seg off = v.extractLsb' 0 8 ∧
        t.byteAt seg (off + 1) = v.extractLsb' 8 8 ∧
        ∀ a b, busAddr s.bus.map a b ∉ wordCells s seg off → t.byteAt a b = s.byteAt a b) ∧
    ∀ (s t : State) (seg off v : Word) (f : CpuFault), wordWriteRefused s seg off v f t →
      memWrite16 seg off v s = .raise f t

/-- With memory in its canonical form and the word at SS:SP-2 writable and readable, pushing v and then popping
returns v with every register as it was; the push changes SP by -2 modulo 2^16 and only the two bytes at
SS:SP-2. A push that the bus refuses leaves SP as it was, and everything else too, but for the first byte of a
word refused at its second, which is log 10 of the model; a pop that it refuses changes nothing. Cites
spec/47_stack.md sections 1 and 6. -/
def Obligations.PopUndoesPush : Prop :=
  (∀ (s : State) (v : Word), s.mem.wf → canPush s → readable16 s s.sregs.ss (s.regs.sp - 2) →
      ∃ t u, push16 v s = .ok () t ∧ t.regs = { s.regs with sp := s.regs.sp - 2 } ∧
        framed s t [.sp] false (wordCells s s.sregs.ss (s.regs.sp - 2)) ∧ pop16 t = .ok v u ∧ u.regs = s.regs ∧
        u.mem = t.mem) ∧
    (∀ (s t : State) (v : Word) (f : CpuFault), pushRefused s v f t → push16 v s = .raise f t) ∧
    ∀ (s : State) (f : CpuFault), wordReadRefused s s.sregs.ss s.regs.sp f → pop16 s = .raise f s

/-- On a first decode of a slot a memory form gives the 16-bit sum of its registers and its displacement, a byte
displacement sign-extended, and its default segment, SS where BP takes part and DS otherwise and for the direct
address, with an override put in its place; the cache holds the mod, reg and rm fields. A second decode in the
slot changes nothing, whatever operand it is given. Cites spec/30_encoding.md section 4, spec/10_state.md
section 7.2. -/
def Obligations.EffectiveAddresses : Prop :=
  (∀ (s : State) (g : BitVec 3) (b : EABase) (d : Byte) (w : Word), fresh s →
      let t0 := decodeModRM ⟨g, .mem (.base b)⟩ s
      let t1 := decodeModRM ⟨g, .mem (.disp8 b d)⟩ s
      let t2 := decodeModRM ⟨g, .mem (.disp16 b w)⟩ s
      let t3 := decodeModRM ⟨g, .mem (.direct w)⟩ s
      let seg := s.sreg (s.segOverride.getD (tableSeg b.num.toNat))
      (t0.doc = ⟨true, 0, g, b.num, true, seg, BitVec.ofNat 16 (tableBase s.regs b.num.toNat)⟩ ∧
        t1.doc = ⟨true, 1, g, b.num, true, seg, BitVec.ofInt 16 (tableBase s.regs b.num.toNat + d.toInt)⟩ ∧
        t2.doc = ⟨true, 2, g, b.num, true, seg, BitVec.ofNat 16 (tableBase s.regs b.num.toNat + w.toNat)⟩ ∧
        t3.doc = ⟨true, 0, g, 6, true, s.sreg (s.segOverride.getD .ds), w⟩)) ∧
    ∀ (s : State) (m n : ModRM), decodeModRM n (decodeModRM m s) = decodeModRM m s

/-- A write of CS asks the active bus whether the selector is executable: when it is, CS takes it and nothing else
changes; when it is not, NonExecutableSegment with the selector is raised and no register, CS included, is
changed. Cites R64. -/
def Obligations.WriteCSIsValidated : Prop :=
  ∀ (s : State) (sel : Word),
    writeCS sel s =
      if s.bus.nonExec.contains sel then .raise (.nonExecutableSegment sel) s
      else .ok () { s with sregs := { s.sregs with cs := sel } }

/-- Far JMP and far CALL to a refused selector, direct and indirect, and RETF, RETF n and IRET whose stacked
selector is refused, dispatch that fault with no register, flag or byte of memory changed by the instruction;
MOV CS of a refused value likewise. The forms with a ModRM byte have its operand decoded, nothing else. Cites
spec/10_state.md section 2, spec/48_control_transfer.md sections 1 to 5, spec/46_operand_access_moves.md section
2. -/
def Obligations.CodeSegmentIsChecked : Prop :=
  (∀ (s : State) (off sel : Word), s.bus.isExecutable sel = false →
      exec (.jmpFarDirect off sel) s = .next (handleFault (.nonExecutableSegment sel) s) ∧
        exec (.callFarDirect off sel) s = .next (handleFault (.nonExecutableSegment sel) s)) ∧
    (∀ (m : MemEA) (s : State), fresh s → pairReadable s m → s.bus.isExecutable (pairHigh s m) = false →
      exec (.jmpFarMem m) s =
          .next (handleFault (.nonExecutableSegment (pairHigh s m)) (opened (modrmMem 5 m) s)) ∧
        exec (.callFarMem m) s =
          .next (handleFault (.nonExecutableSegment (pairHigh s m)) (opened (modrmMem 3 m) s))) ∧
    (∀ s : State, canPop s 0 → canPop s 2 → s.bus.isExecutable (stacked s 2) = false →
      exec .retf s = .next (handleFault (.nonExecutableSegment (stacked s 2)) s) ∧
        (∀ n, exec (.retfImm16 n) s = .next (handleFault (.nonExecutableSegment (stacked s 2)) s)) ∧
        (canPop s 4 → exec .iret s = .next (handleFault (.nonExecutableSegment (stacked s 2)) s))) ∧
    ∀ (s : State) (rm : Rm Reg16), fresh s → canRead16 s rm → s.bus.isExecutable (operand16 s rm) = false →
      exec (.movCsRm16 rm) s =
        .next (handleFault (.nonExecutableSegment (operand16 s rm)) (opened (modrm16 1 rm) s))

/-- For operands of 8 or 16 bits, with a carry-in of 0 for ADD and of the old CF for ADC: the result is the sum
modulo 2^w; CF is set exactly when the sum exceeds the mask; OF is the sign bit of (r ^ a) & (r ^ b), which is
set exactly when the signed sum lies outside the signed range; AF is bit 4 of a ^ b ^ r, which is set exactly
when the low nibbles and the carry sum to 16 or more; ZF, SF and PF are those of the result; the record holds
both operands, the result over the integers and the width, with all six derived; TF, IF and DF are kept. Cites
spec/40_alu_arith.md sections 2 to 4, spec/10_state.md section 7.1. -/
def Obligations.AdditionFlags : Prop :=
  ∀ (w : Nat) (a b : BitVec w) (fe : FlagEngine) (op : AluOp) (cin : Bool), w = 8 ∨ w = 16 →
    (op = .add ∧ cin = false) ∨ (op = .adc ∧ cin = fe.cf) →
    let r := (op.apply a b fe).1
    let f := (op.apply a b fe).2
    r.toNat = (a.toNat + b.toNat + cin.toNat) % 2 ^ w ∧ (f.cf = true ↔ 2 ^ w - 1 < a.toNat + b.toNat + cin.toNat) ∧
      f.of_ = ((r ^^^ a) &&& (r ^^^ b)).msb ∧
      (f.of_ = true ↔ a.toInt + b.toInt + cin.toNat < -2 ^ (w - 1) ∨ 2 ^ (w - 1) - 1 < a.toInt + b.toInt + cin.toNat) ∧
      f.af = (a ^^^ b ^^^ r).getLsbD 4 ∧ (f.af = true ↔ 16 ≤ a.toNat % 16 + b.toNat % 16 + cin.toNat) ∧ zspOf f r ∧
      f.record = ⟨a.toNat, b.toNat, (a.toNat + b.toNat + cin.toNat : Nat), widthTag w, .allDerived⟩ ∧ sameControl fe f

/-- For operands of 8 or 16 bits, with a borrow-in of 0 for SUB and of the old CF for SBB: the result is the
difference modulo 2^w; CF is set exactly when the difference over the integers is negative; OF is the sign bit
of (r ^ a) & (a ^ b), which is set exactly when the signed difference lies outside the signed range; AF is bit 4
of a ^ b ^ r, which is set exactly when the low nibble of the first is less than that of the second plus the
borrow; ZF, SF and PF are those of the result; the record holds both operands, the result over the integers and
the width, with all six derived; TF, IF and DF are kept. Cites spec/40_alu_arith.md sections 2 to 4,
spec/10_state.md section 7.1. -/
def Obligations.SubtractionFlags : Prop :=
  ∀ (w : Nat) (a b : BitVec w) (fe : FlagEngine) (op : AluOp) (cin : Bool), w = 8 ∨ w = 16 →
    (op = .sub ∧ cin = false) ∨ (op = .sbb ∧ cin = fe.cf) →
    let r := (op.apply a b fe).1
    let f := (op.apply a b fe).2
    (r.toNat : Int) = (a.toNat - b.toNat - cin.toNat : Int) % 2 ^ w ∧ (f.cf = true ↔ a.toNat < b.toNat + cin.toNat) ∧
      f.of_ = ((r ^^^ a) &&& (a ^^^ b)).msb ∧
      (f.of_ = true ↔ a.toInt - b.toInt - cin.toNat < -2 ^ (w - 1) ∨ 2 ^ (w - 1) - 1 < a.toInt - b.toInt - cin.toNat) ∧
      f.af = (a ^^^ b ^^^ r).getLsbD 4 ∧ (f.af = true ↔ a.toNat % 16 < b.toNat % 16 + cin.toNat) ∧ zspOf f r ∧
      f.record = ⟨a.toNat, b.toNat, a.toNat - b.toNat - cin.toNat, widthTag w, .allDerived⟩ ∧ sameControl fe f

/-- At 8 and 16 bits, Inc of a gives the result and the flags of Add of a and 1, and Dec those of Sub of a and 1,
except that CF keeps the value it had before; in the Deferred Flag Record CF is explicit, and all else there is
as Add or Sub has it. Cites spec/40_alu_arith.md section 3, spec/10_state.md section 7.1. -/
def Obligations.IncDecKeepCarry : Prop :=
  ∀ (w : Nat) (a : BitVec w) (fe : FlagEngine), w = 8 ∨ w = 16 →
    ((inc a fe).1 = (AluOp.apply .add a 1 fe).1 ∧ (inc a fe).2.cf = fe.cf ∧
        (inc a fe).2.record = carryExplicit (AluOp.apply .add a 1 fe).2.record ∧ sameButCarry (AluOp.apply .add a 1 fe).2 (inc a fe).2) ∧
      (dec a fe).1 = (AluOp.apply .sub a 1 fe).1 ∧ (dec a fe).2.cf = fe.cf ∧
      (dec a fe).2.record = carryExplicit (AluOp.apply .sub a 1 fe).2.record ∧ sameButCarry (AluOp.apply .sub a 1 fe).2 (dec a fe).2

/-- For operands of 8 or 16 bits, bit i of the result is the and, or, xor of the operands' bits i; CF and OF are
false and explicit; ZF, SF and PF are those of the result and derived; the record holds the operands, the result
and the width; TF, IF and DF are kept; TEST has the flags of AND. AF is the next draw, of which nothing is said
but that the record has it explicit, log 12 of the model. Cites spec/41_alu_logic.md, spec/10_state.md sections
4 and 7.1. -/
def Obligations.LogicFlagsForced : Prop :=
  ∀ (w : Nat) (a b : BitVec w) (fe : FlagEngine), w = 8 ∨ w = 16 →
    (∀ i, (AluOp.apply .and a b fe).1.getLsbD i = (a.getLsbD i && b.getLsbD i) ∧
        (AluOp.apply .or a b fe).1.getLsbD i = (a.getLsbD i || b.getLsbD i) ∧
        (AluOp.apply .xor a b fe).1.getLsbD i = (a.getLsbD i != b.getLsbD i)) ∧
      testFlags a b fe = (AluOp.apply .and a b fe).2 ∧
      ∀ op, op = .and ∨ op = .or ∨ op = .xor →
        let x := AluOp.apply op a b fe
        x.2.cf = false ∧ x.2.of_ = false ∧ x.2.record = ⟨a.toNat, b.toNat, x.1.toNat, widthTag w, forcedSrcs⟩ ∧
          zspOf x.2 x.1 ∧ sameControl fe x.2

/-- For operands of 8 or 16 bits, high half and low half together are the unsigned product for MUL and the signed
one for IMUL; CF and OF are equal, and set exactly when the product does not fit the low half, read unsigned or
signed; ZF, SF and PF are those of the low half; the record holds the operands read unsigned, the product and
the width, with CF and OF explicit, and AF, a draw, too (log 12 of the model); TF, IF and DF are kept. Cites
spec/42_alu_muldiv.md sections 2 and 4, spec/10_state.md section 7.1. -/
def Obligations.Products : Prop :=
  ∀ (w : Nat) (a b : BitVec w) (fe : FlagEngine), w = 8 ∨ w = 16 →
    (∀ lo hi f, mul a b fe = (lo, hi, f) →
      hi.toNat * 2 ^ w + lo.toNat = a.toNat * b.toNat ∧ (f.cf = true ↔ 2 ^ w ≤ a.toNat * b.toNat) ∧ f.of_ = f.cf ∧
        zspOf f lo ∧ f.record = ⟨a.toNat, b.toNat, (a.toNat * b.toNat : Nat), widthTag w, forcedSrcs⟩ ∧
        sameControl fe f) ∧
      ∀ lo hi f, imul a b fe = (lo, hi, f) →
        hi.toInt * 2 ^ w + lo.toNat = a.toInt * b.toInt ∧
          (f.cf = true ↔ a.toInt * b.toInt < -2 ^ (w - 1) ∨ 2 ^ (w - 1) ≤ a.toInt * b.toInt) ∧ f.of_ = f.cf ∧
          zspOf f lo ∧ f.record = ⟨a.toNat, b.toNat, a.toInt * b.toInt, widthTag w, forcedSrcs⟩ ∧ sameControl fe f

/-- For a dividend of 2w bits and a divisor of w bits, w being 8 or 16: the unsigned division has no result exactly
when the divisor is 0 or the quotient exceeds the mask, and a result has n = q*d + r with r < d; the signed
division, truncating toward zero, has none exactly when the divisor is 0 or the quotient lies outside the signed
range of w bits, and a result has N = Q*D + R with |R| < |D| and R of the sign of N or 0. Cites
spec/42_alu_muldiv.md sections 3 and 4. -/
def Obligations.Quotients : Prop :=
  ∀ w : Nat, w = 8 ∨ w = 16 →
    (∀ n d : Nat, n < 2 ^ (2 * w) → d < 2 ^ w →
        (udivide w n d = none ↔ d = 0 ∨ 2 ^ w - 1 < n / d) ∧
          ∀ q r, udivide w n d = some (q, r) → n = q.toNat * d + r.toNat ∧ r.toNat < d) ∧
      ∀ n d : Int, -2 ^ (2 * w - 1) ≤ n → n < 2 ^ (2 * w - 1) → -2 ^ (w - 1) ≤ d → d < 2 ^ (w - 1) →
        (sdivide w n d = none ↔ d = 0 ∨ n.tdiv d < -2 ^ (w - 1) ∨ 2 ^ (w - 1) - 1 < n.tdiv d) ∧
          ∀ q r, sdivide w n d = some (q, r) →
            n = q.toInt * d + r.toInt ∧ r.toInt.natAbs < d.natAbs ∧
              (r.toInt = 0 ∨ (0 < r.toInt ∧ 0 < n) ∨ (r.toInt < 0 ∧ n < 0))

/-- At 8 and 16 bits, with e the count modulo w: for e above 0, bit i of ROL is bit (i - e) mod w of the operand and
CF is bit 0 of the result, bit i of ROR is bit (i + e) mod w and CF is the top bit. RCL and RCR do the same on
the w+1 bits with the old CF on top, e being the count modulo w+1, CF the new top bit. For e = 1, and for every
e under ROT_OF_MULTI = formula, OF is CF xor the top bit for the left ones and the xor of the two top bits for
the right ones; under a table it is that of the table for e not 1. SF, ZF, PF, AF and the control flags are
kept. For e = 0 nothing changes, but for ROL and ROR by a count that is not 0 under ROT_EFF0 = setcf, which set
CF and OF from the unchanged operand. ROT_OF_MULTI as a table is log 7 of the model; what the record stores
after a rotate is log 12; that under setcf a rotate of effective count 0 takes OF by the rule for a count other
than 1 is log 20. Cites spec/43_alu_shift_rotate.md section 2, spec/10_state.md section 7.1. -/
def Obligations.RotateBits : Prop :=
  ∀ (w : Nat) (p : Params) (a : BitVec w) (n : Nat) (fe : FlagEngine), w = 8 ∨ w = 16 →
    let x := BitVec.cons fe.cf a
    (n % w = 0 → n = 0 ∨ p.rotEff0 = .noop → rol p a n fe = (a, fe) ∧ ror p a n fe = (a, fe)) ∧
      (n % w = 0 → n ≠ 0 → p.rotEff0 = .setcf →
        rotated p fe .rol a n (rol p a n fe) 0 a.getLsbD (a.getLsbD 0) ∧
          rotated p fe .ror a n (ror p a n fe) 0 a.getLsbD (a.getLsbD (w - 1))) ∧
      (n % (w + 1) = 0 → rcl p a n fe = (a, fe) ∧ rcr p a n fe = (a, fe)) ∧
      (n % w ≠ 0 →
        rotated p fe .rol a n (rol p a n fe) (n % w) (fun i => a.getLsbD ((i + w - n % w) % w)) (a.getLsbD (w - n % w)) ∧
          rotated p fe .ror a n (ror p a n fe) (n % w) (fun i => a.getLsbD ((i + n % w) % w)) (a.getLsbD (n % w - 1))) ∧
      (n % (w + 1) ≠ 0 →
        rotated p fe .rcl a n (rcl p a n fe) (n % (w + 1))
            (fun i => x.getLsbD ((i + (w + 1) - n % (w + 1)) % (w + 1)))
            (x.getLsbD ((w + (w + 1) - n % (w + 1)) % (w + 1))) ∧
          rotated p fe .rcr a n (rcr p a n fe) (n % (w + 1)) (fun i => x.getLsbD ((i + n % (w + 1)) % (w + 1)))
            (x.getLsbD ((w + n % (w + 1)) % (w + 1))))

/-- At 8 and 16 bits: a count of 0 changes neither value nor flags. For a count n of 1 or more, SHL gives the
operand times 2^n modulo 2^w with CF the bit w-n, false above w; SHR the operand divided by 2^n with CF the bit
n-1; SAR the signed operand divided by 2^n rounding down, with CF the bit n-1, the sign from w on. ZF, SF and PF
are those of the result, TF, IF and DF kept; for n = 1 under SHIFT_OF1_RULE = doc, and for n above 1 under
SHIFT_OF_MULTI = formula, OF is CF xor the new sign; for n = 1 under hw it is so for SHL, the old sign for SHR
and false for SAR; for n above 1 under a table it is that of the table. AF is a draw, of which nothing is said.
SHIFT_OF_MULTI as a table is log 7 of the model; what the record stores after a shift is log 12. Cites
spec/43_alu_shift_rotate.md section 3, spec/10_state.md section 7.1. -/
def Obligations.ShiftBits : Prop :=
  ∀ (w : Nat) (p : Params) (a : BitVec w) (n : Nat) (fe : FlagEngine), w = 8 ∨ w = 16 →
    (n = 0 → shl p a n fe = (a, fe) ∧ shr p a n fe = (a, fe) ∧ sar p a n fe = (a, fe)) ∧
      (n ≠ 0 →
        ((shl p a n fe).1.toNat = a.toNat * 2 ^ n % 2 ^ w ∧
            (shl p a n fe).2.cf = (decide (n ≤ w) && a.getLsbD (w - n)) ∧
            shifted p fe .shl a n (a.toNat * 2 ^ n) (shl p a n fe)) ∧
          ((shr p a n fe).1.toNat = a.toNat / 2 ^ n ∧ (shr p a n fe).2.cf = a.getLsbD (n - 1) ∧
            shifted p fe .shr a n (shr p a n fe).1.toNat (shr p a n fe)) ∧
          (sar p a n fe).1.toInt = a.toInt / 2 ^ n ∧
          (sar p a n fe).2.cf = (if n < w then a.getLsbD (n - 1) else a.msb) ∧
          shifted p fe .sar a n (sar p a n fe).1.toNat (sar p a n fe))

/-- CF, PF, AF, ZF and SF are bits 0, 2, 4, 6 and 7 of the 8-bit and of the 16-bit image, TF, IF, DF and OF bits 8
to 11 of the 16-bit one, both where an image is taken, with FLAGS_FIXED_ONES free of flag bits, and where it is
loaded. Loading the 16-bit image of some flags gives those nine flags back, and the image after loading v is v
at the nine flag bits and FLAGS_FIXED_ONES elsewhere; bits 1, 3, 5 and 15 to 12 of an image are those of
FLAGS_FIXED_ONES. Loading the 8-bit image of the flags changes no flag, and any 8-bit image leaves OF, TF, IF
and DF. After either load every status flag is explicit; that the 8-bit load makes OF explicit too, its value
kept, is log 12 of the model. Cites spec/10_state.md section 4, spec/45_flag_ops.md section 2. -/
def Obligations.FlagImageLaws : Prop :=
  ∀ (p : Params) (fe g : FlagEngine) (v : Word), p.flagsFixedOnes &&& 0x0FD5 = 0 →
    sameFlags fe (setFlags16 (flagsImage16 p fe) g) ∧
      flagsImage16 p (setFlags16 v g) = (v &&& 0x0FD5) ||| p.flagsFixedOnes ∧
      flagsImage16 p fe &&& 0xF02A = p.flagsFixedOnes &&& 0xF02A ∧
      sameFlags fe (setFlags8 (flagsImage8 p fe) fe) ∧ (setFlags16 v g).record.src = .allExplicit ∧
      (∀ b : Byte, (setFlags8 b g).record.src = .allExplicit ∧ (setFlags8 b g).of_ = g.of_ ∧
        sameControl g (setFlags8 b g) ∧ lowPlaces b (setFlags8 b g)) ∧
      lowPlaces (flagsImage8 p fe) fe ∧ lowPlaces ((flagsImage16 p fe).extractLsb' 0 8) fe ∧
      highPlaces (flagsImage16 p fe) fe ∧ lowPlaces (v.extractLsb' 0 8) (setFlags16 v g) ∧ highPlaces v (setFlags16 v g)

/-- CMP computes what SUB computes. For each of the eight operations, at both widths and in both directions: with
the memory operand readable, and writable where the form writes it, the instruction completes; the destination
holds the result of the operation on destination and source, but for CMP, the flags are those of the operation,
and nothing else but the operand cache changes. A write-back that the bus refuses at its first byte is handled
with no flag and no register changed. Cites spec/40_alu_arith.md section 3, spec/46_operand_access_moves.md
section 1, spec/60_exceptions.md section 4. -/
def Obligations.AluRegisterForms : Prop :=
  (∀ (w : Nat) (a b : BitVec w) (fe : FlagEngine), AluOp.apply .cmp a b fe = AluOp.apply .sub a b fe) ∧
    (∀ op rm r s, fresh s → canRead8 s rm → (op.writes = true → canWrite8 s rm) →
      exec (aluRmR8Of op rm r) s =
        .next (aluDone8 op (op.apply (operand8 s rm) (s.reg8 r) s.fe) s rm (opened (modrm8 r.num rm) s))) ∧
    (∀ op rm r s, fresh s → canRead16 s rm → (op.writes = true → canWrite16 s rm) →
      exec (aluRmR16Of op rm r) s =
        .next (aluDone16 op (op.apply (operand16 s rm) (s.reg16 r) s.fe) s rm (opened (modrm16 r.num rm) s))) ∧
    (∀ op rm r s, fresh s → canRead8 s rm → op.writes = true →
      writeRefused (aluRmR8Of op rm r) s (opened (modrm8 r.num rm) s) rm) ∧
    (∀ op rm r s, fresh s → canRead16 s rm → op.writes = true →
      writeRefused (aluRmR16Of op rm r) s (opened (modrm16 r.num rm) s) rm) ∧
    (∀ op r rm s, fresh s → canRead8 s rm →
      exec (aluRRm8Of op r rm) s =
        .next (aluDone8 op (op.apply (s.reg8 r) (operand8 s rm) s.fe) s (.reg r) (opened (modrm8 r.num rm) s))) ∧
    ∀ op r rm s, fresh s → canRead16 s rm →
      exec (aluRRm16Of op r rm) s =
        .next (aluDone16 op (op.apply (s.reg16 r) (operand16 s rm) s.fe) s (.reg r) (opened (modrm16 r.num rm) s))

/-- For each of the eight operations: the accumulator forms, the forms of opcodes 80, 81 and 82, and the form of
opcode 83 with its byte sign-extended, complete when the operand can be read, and written where the form writes
it; the destination holds the result, but for CMP, and the flags are those of the operation. A write-back that
the bus refuses at its first byte is handled with no flag and no register changed. Cites spec/40_alu_arith.md
section 3, spec/30_encoding.md section 5, spec/46_operand_access_moves.md section 1, spec/60_exceptions.md
section 4. -/
def Obligations.AluImmediateForms : Prop :=
  (∀ op imm s, exec (aluAlImmOf op imm) s =
      .next (aluDone8 op (op.apply (s.reg8 .al) imm s.fe) s (.reg .al) s)) ∧
    (∀ op imm s, exec (aluAxImmOf op imm) s =
      .next (aluDone16 op (op.apply s.regs.ax imm s.fe) s (.reg .ax) s)) ∧
    (∀ op rm imm s, fresh s → canRead8 s rm → (op.writes = true → canWrite8 s rm) →
      exec (aluRmImm8Of op rm imm) s =
          .next (aluDone8 op (op.apply (operand8 s rm) imm s.fe) s rm (opened (modrm8 (aluCode op) rm) s)) ∧
        exec (aluRmImm8Op82Of op rm imm) s =
          .next (aluDone8 op (op.apply (operand8 s rm) imm s.fe) s rm (opened (modrm8 (aluCode op) rm) s))) ∧
    (∀ op rm s, fresh s → canRead8 s rm → op.writes = true →
      ∀ imm, writeRefused (aluRmImm8Of op rm imm) s (opened (modrm8 (aluCode op) rm) s) rm ∧
        writeRefused (aluRmImm8Op82Of op rm imm) s (opened (modrm8 (aluCode op) rm) s) rm) ∧
    (∀ op rm s, fresh s → canRead16 s rm → op.writes = true →
      (∀ imm, writeRefused (aluRmImm16Of op rm imm) s (opened (modrm16 (aluCode op) rm) s) rm) ∧
        ∀ imm, writeRefused (aluRmImm8sOf op rm imm) s (opened (modrm16 (aluCode op) rm) s) rm) ∧
    ∀ op rm s, fresh s → canRead16 s rm → (op.writes = true → canWrite16 s rm) →
      (∀ imm, exec (aluRmImm16Of op rm imm) s =
          .next (aluDone16 op (op.apply (operand16 s rm) imm s.fe) s rm (opened (modrm16 (aluCode op) rm) s))) ∧
        ∀ imm : Byte, exec (aluRmImm8sOf op rm imm) s =
          .next (aluDone16 op (op.apply (operand16 s rm) (imm.signExtend 16) s.fe) s rm
            (opened (modrm16 (aluCode op) rm) s))

/-- INC and DEC of a word register, and INC, DEC, NEG and NOT of r/m at both widths with the operand readable and
writable, complete: the operand holds the result, the flags are those of the operation, for NEG those of the
subtraction from 0, unchanged for NOT, and nothing else but the operand cache changes. A write-back that the bus
refuses at its first byte is handled with no flag and no register changed. Cites spec/40_alu_arith.md section 3,
spec/41_alu_logic.md, spec/46_operand_access_moves.md section 1, spec/60_exceptions.md section 4. -/
def Obligations.UnaryForms : Prop :=
  (∀ r s, exec (.incR16 r) s = .next ((s.setFlags (inc (s.reg16 r) s.fe).2).setReg16 r (inc (s.reg16 r) s.fe).1)) ∧
    (∀ r s, exec (.decR16 r) s = .next ((s.setFlags (dec (s.reg16 r) s.fe).2).setReg16 r (dec (s.reg16 r) s.fe).1)) ∧
    Unary8 .incRm8 0 inc ∧ Unary8 .decRm8 1 dec ∧ Unary8 .negRm8 3 (AluOp.apply .sub 0) ∧ Unary8 .notRm8 2 (fun a fe => (~~~a, fe)) ∧
    Unary16 .incRm16 0 inc ∧ Unary16 .decRm16 1 dec ∧ Unary16 .negRm16 3 (AluOp.apply .sub 0) ∧
    Unary16 .notRm16 2 (fun a fe => (~~~a, fe))

/-- TEST of r/m and register, of the accumulator and an immediate, of r/m and an immediate, at both widths, with the
operand readable, completes: the flags are those of AND of the two operands, and nothing else but the operand
cache changes. Cites spec/41_alu_logic.md. -/
def Obligations.TestForms : Prop :=
  (∀ rm r s, fresh s → canRead8 s rm → exec (.testRm8R8 rm r) s =
      .next ((opened (modrm8 r.num rm) s).setFlags (AluOp.apply .and (operand8 s rm) (s.reg8 r) s.fe).2)) ∧
    (∀ rm r s, fresh s → canRead16 s rm → exec (.testRm16R16 rm r) s =
      .next ((opened (modrm16 r.num rm) s).setFlags (AluOp.apply .and (operand16 s rm) (s.reg16 r) s.fe).2)) ∧
    (∀ imm s, exec (.testAlImm8 imm) s = .next (s.setFlags (AluOp.apply .and (s.reg8 .al) imm s.fe).2)) ∧
    (∀ imm s, exec (.testAxImm16 imm) s = .next (s.setFlags (AluOp.apply .and s.regs.ax imm s.fe).2)) ∧
    (∀ rm imm s, fresh s → canRead8 s rm → exec (.testRm8Imm8 rm imm) s =
      .next ((opened (modrm8 0 rm) s).setFlags (AluOp.apply .and (operand8 s rm) imm s.fe).2)) ∧
    ∀ rm imm s, fresh s → canRead16 s rm → exec (.testRm16Imm16 rm imm) s =
      .next ((opened (modrm16 0 rm) s).setFlags (AluOp.apply .and (operand16 s rm) imm s.fe).2)

/-- With the operand readable, MUL and IMUL r/m8 leave the low half in AL and the high half in AH, r/m16 the low
half in AX and the high half in DX, and the forms with an immediate the low half in the named register, the byte
immediate sign-extended; the flags are those of the multiplication, and nothing else but the operand cache
changes. Cites spec/42_alu_muldiv.md section 2. -/
def Obligations.MultiplyForms : Prop :=
  (∀ rm s, fresh s → canRead8 s rm →
      (∀ lo hi fe, mul (s.reg8 .al) (operand8 s rm) s.fe = (lo, hi, fe) →
        exec (.mulRm8 rm) s = .next (((opened (modrm8 4 rm) s).setFlags fe).setReg16 .ax (hi ++ lo))) ∧
        ∀ lo hi fe, imul (s.reg8 .al) (operand8 s rm) s.fe = (lo, hi, fe) →
          exec (.imulRm8 rm) s = .next (((opened (modrm8 5 rm) s).setFlags fe).setReg16 .ax (hi ++ lo))) ∧
    (∀ rm s, fresh s → canRead16 s rm →
      (∀ lo hi fe, mul s.regs.ax (operand16 s rm) s.fe = (lo, hi, fe) →
        exec (.mulRm16 rm) s =
          .next ((((opened (modrm16 4 rm) s).setFlags fe).setReg16 .ax lo).setReg16 .dx hi)) ∧
        ∀ lo hi fe, imul s.regs.ax (operand16 s rm) s.fe = (lo, hi, fe) →
          exec (.imulRm16 rm) s =
            .next ((((opened (modrm16 5 rm) s).setFlags fe).setReg16 .ax lo).setReg16 .dx hi)) ∧
    ∀ r rm s, fresh s → canRead16 s rm →
      (∀ imm, exec (.imulR16Rm16Imm16 r rm imm) s =
          .next (((opened (modrm16 r.num rm) s).setFlags (imul (operand16 s rm) imm s.fe).2.2).setReg16 r
            (imul (operand16 s rm) imm s.fe).1)) ∧
        ∀ imm : Byte, exec (.imulR16Rm16Imm8s r rm imm) s =
          .next (((opened (modrm16 r.num rm) s).setFlags
            (imul (operand16 s rm) (imm.signExtend 16) s.fe).2.2).setReg16 r
              (imul (operand16 s rm) (imm.signExtend 16) s.fe).1)

/-- With the operand readable: where the division of AX, or of DX:AX, by the operand has a result, DIV and IDIV
leave the quotient in AL or AX and the remainder in AH or DX, the six status flags are the next draws, of which
nothing is said, the record holds dividend, divisor and quotient (log 12 of the model), TF, IF and DF are kept,
and nothing else changes but the operand cache; where it has none, the instruction handles DivideError with no
register or flag changed by it. Cites spec/42_alu_muldiv.md section 3, spec/60_exceptions.md section 1. -/
def Obligations.DivideForms : Prop :=
  (∀ rm s, fresh s → canRead8 s rm →
      let n := s.regs.ax
      let d := operand8 s rm
      DivLaw8 (.divRm8 rm) (opened (modrm8 6 rm) s) s n.toNat d.toNat (udivide 8 n.toNat d.toNat) ∧
        DivLaw8 (.idivRm8 rm) (opened (modrm8 7 rm) s) s n.toNat d.toNat (sdivide 8 n.toInt d.toInt)) ∧
    ∀ rm s, fresh s → canRead16 s rm →
      let n := s.regs.dx.toNat * 2 ^ 16 + s.regs.ax.toNat
      let d := operand16 s rm
      DivLaw16 (.divRm16 rm) (opened (modrm16 6 rm) s) s n d.toNat (udivide 16 n d.toNat) ∧
        DivLaw16 (.idivRm16 rm) (opened (modrm16 7 rm) s) s n d.toNat
          (sdivide 16 (s.regs.dx.toInt * 2 ^ 16 + s.regs.ax.toNat) d.toInt)

/-- For each of the seven operations at both widths, with the count 1, CL or an immediate, the operand readable and
writable: the instruction completes; the operand holds the result for the count masked with COUNT_MASK, CL being
the one from before the instruction, the flags are those of the operation, and nothing else but the operand
cache changes. A write-back that the bus refuses at its first byte is handled with no flag and no register
changed. Cites spec/43_alu_shift_rotate.md section 4, spec/46_operand_access_moves.md section 1,
spec/60_exceptions.md section 4. -/
def Obligations.ShiftForms : Prop :=
  (∀ op rm s, fresh s → canRead8 s rm →
      shiftLaw8 (shiftRm8By1Of op rm) op rm s 1 ∧ shiftLaw8 (shiftRm8ClOf op rm) op rm s (s.reg8 .cl) ∧
        ∀ imm, shiftLaw8 (shiftRmImm8Of op rm imm) op rm s imm) ∧
    ∀ op rm s, fresh s → canRead16 s rm →
      shiftLaw16 (shiftRm16By1Of op rm) op rm s 1 ∧ shiftLaw16 (shiftRm16ClOf op rm) op rm s (s.reg8 .cl) ∧
        ∀ imm, shiftLaw16 (shiftRm16ImmOf op rm imm) op rm s imm

/-- Each adjustment completes for every AX and flags, with AL, AH, CF and AF, or ZF, SF and PF, as its algorithm
says from the values at entry; no other register, no control flag and no byte of memory changes; of the flags
that are draws nothing is said. AAM with the immediate 0 handles DivideError with nothing changed. The
algorithms are the decision D19 of the spec. Cites spec/44_alu_bcd.md, spec/60_exceptions.md section 1. -/
def Obligations.DecimalAdjust : Prop :=
  ∀ s : State,
    let al := (s.reg8 .al).toNat
    let ah := (s.reg8 .ah).toNat
    let low := decide (9 < al % 16) || s.fe.af
    let high := decide (0x99 < al) || s.fe.cf
    (∃ t, exec .aaa s = .next t ∧ adjusted s t (if low then (al + 6) % 16 else al % 16) (if low then ah + 1 else ah) ∧
        t.fe.cf = low ∧ t.fe.af = low) ∧
      (∃ t, exec .aas s = .next t ∧
        adjusted s t (if low then (al + 250) % 16 else al % 16) (if low then ah + 255 else ah) ∧
        t.fe.cf = low ∧ t.fe.af = low) ∧
      (∃ t, exec .daa s = .next t ∧
        adjusted s t (al + (if low then 6 else 0) + (if high then 0x60 else 0)) ah ∧ t.fe.cf = high ∧
        t.fe.af = low ∧ zspOf t.fe (t.reg8 .al)) ∧
      (∃ t, exec .das s = .next t ∧
        adjusted s t (al + (if low then 250 else 0) + (if high then 0xA0 else 0)) ah ∧
        t.fe.cf = (high || (low && decide (al < 6))) ∧ t.fe.af = low ∧ zspOf t.fe (t.reg8 .al)) ∧
      ∀ b : Byte,
        (b.toNat = 0 → exec (.aamImm8 b) s = .next (handleFault .divideError s)) ∧
          (b.toNat ≠ 0 → ∃ t, exec (.aamImm8 b) s = .next t ∧ adjusted s t (al % b.toNat) (al / b.toNat) ∧
            zspOf t.fe (t.reg8 .al)) ∧
          ∃ t, exec (.aadImm8 b) s = .next t ∧ adjusted s t (al + ah * b.toNat) 0 ∧ zspOf t.fe (t.reg8 .al)

/-- CLC and STC write CF, explicit in the record, with no other flag, operand or result of the record changed; CLI
and STI write IF, CLD and STD write DF, and nothing else. Cites R400, R401, R403, R404, R405, R406. -/
def Obligations.SingleFlagForms : Prop :=
  ∀ s : State,
    (exec .clc s = .next (withCarry s false) ∧ exec .stc s = .next (withCarry s true)) ∧
      exec .cli s = .next (s.setFlags { s.fe with if_ := false }) ∧
      exec .sti s = .next (s.setFlags { s.fe with if_ := true }) ∧
      exec .cld s = .next (s.setFlags { s.fe with df := false }) ∧
      exec .std s = .next (s.setFlags { s.fe with df := true })

/-- CMC inverts CF, explicit in the record, and nothing else; LAHF puts bits 7 to 0 of the flag image into AH; SAHF
loads SF, ZF, AF, PF and CF from bits 7, 6, 4, 2 and 0 of AH and keeps OF and the control flags; PUSHF pushes
the flag image when the stack word can be written; POPF loads all nine flags from the popped word when it can be
read and raises SP by 2. Every flag an image loads is explicit. Nothing else changes. That a load makes OF
explicit too, and that the record keeps its operands, raw result and width after one, is log 12 of the model.
Cites spec/45_flag_ops.md sections 1 to 3, spec/10_state.md section 4. -/
def Obligations.FlagImageForms : Prop :=
  ∀ s : State,
    exec .cmc s = .next (withCarry s (!s.fe.cf)) ∧
      exec .lahf s = .next (s.setReg8 .ah ((flagsImage16 s.params s.fe).extractLsb' 0 8)) ∧
      exec .sahf s =
        .next (s.setFlags
          { s.fe with
            sf := (s.reg8 .ah).getLsbD 7
            zf := (s.reg8 .ah).getLsbD 6
            af := (s.reg8 .ah).getLsbD 4
            pf := (s.reg8 .ah).getLsbD 2
            cf := (s.reg8 .ah).getLsbD 0
            record := { s.fe.record with src := .allExplicit } }) ∧
      (canPush s → exec .pushf s = .next (pushed (flagsImage16 s.params s.fe) s)) ∧
      (canPop s 0 →
        exec .popf s =
          .next ((s.setSP (s.regs.sp + 2)).setFlags
            { s.fe with
              cf := (stacked s 0).getLsbD 0
              pf := (stacked s 0).getLsbD 2
              af := (stacked s 0).getLsbD 4
              zf := (stacked s 0).getLsbD 6
              sf := (stacked s 0).getLsbD 7
              tf := (stacked s 0).getLsbD 8
              if_ := (stacked s 0).getLsbD 9
              df := (stacked s 0).getLsbD 10
              of_ := (stacked s 0).getLsbD 11
              record := { s.fe.record with src := .allExplicit } }))

/-- MOV between r/m and register in both directions and widths, of an immediate to r/m or to a register, and between
the accumulator and a direct address, with a memory source readable and a memory destination writable,
completes: the destination holds the value of the source, no flag and nothing else but the operand cache
changes. The direct address has DS or the override of the slot. Cites spec/46_operand_access_moves.md sections 1
and 2. -/
def Obligations.MoveForms : Prop :=
  (∀ rm r s, fresh s → canWrite8 s rm →
      exec (.movRm8R8 rm r) s = .next (assign8 s rm (s.reg8 r) (opened (modrm8 r.num rm) s))) ∧
    (∀ rm r s, fresh s → canWrite16 s rm →
      exec (.movRm16R16 rm r) s = .next (assign16 s rm (s.reg16 r) (opened (modrm16 r.num rm) s))) ∧
    (∀ r rm s, fresh s → canRead8 s rm →
      exec (.movR8Rm8 r rm) s = .next ((opened (modrm8 r.num rm) s).setReg8 r (operand8 s rm))) ∧
    (∀ r rm s, fresh s → canRead16 s rm →
      exec (.movR16Rm16 r rm) s = .next ((opened (modrm16 r.num rm) s).setReg16 r (operand16 s rm))) ∧
    (∀ rm imm s, fresh s → canWrite8 s rm →
      exec (.movRm8Imm8 rm imm) s = .next (assign8 s rm imm (opened (modrm8 0 rm) s))) ∧
    (∀ rm imm s, fresh s → canWrite16 s rm →
      exec (.movRm16Imm16 rm imm) s = .next (assign16 s rm imm (opened (modrm16 0 rm) s))) ∧
    (∀ r imm s, exec (.movR8Imm8 r imm) s = .next (s.setReg8 r imm)) ∧
    (∀ r imm s, exec (.movR16Imm16 r imm) s = .next (s.setReg16 r imm)) ∧
    ∀ (a : Word) (s : State),
      (readable8 s (s.segmentOr .ds) a →
          exec (.movAlMoffs8 a) s = .next (s.setReg8 .al (s.byteAt (s.segmentOr .ds) a))) ∧
        (readable16 s (s.segmentOr .ds) a →
          exec (.movAxMoffs16 a) s = .next (s.setReg16 .ax (s.wordAt (s.segmentOr .ds) a))) ∧
        (writable8 s (s.segmentOr .ds) a →
          exec (.movMoffs8Al a) s = .next (s.putByte (s.segmentOr .ds) a (s.reg8 .al))) ∧
        (writable16 s (s.segmentOr .ds) a →
          exec (.movMoffs16Ax a) s = .next (s.putWord (s.segmentOr .ds) a s.regs.ax))

/-- Storing a segment register to r/m16 or pushing it writes its value. Loading DS, ES or SS from a readable r/m16
or from the stack stores the value with no check inside the block; where the host's SEG_LOAD_CHECK refuses it,
the fault is handled with the segment register as before, SP already moved for POP, which is log 24 of the
model. Loading CS from r/m16 stores an executable selector. Cites spec/46_operand_access_moves.md section 2,
spec/47_stack.md sections 2 and 3, spec/10_state.md section 2. -/
def Obligations.SegmentRegisterMoves : Prop :=
  (∀ rm s, fresh s → canWrite16 s rm →
      exec (.movRm16Es rm) s = .next (assign16 s rm s.sregs.es (opened (modrm16 0 rm) s)) ∧
        exec (.movRm16Cs rm) s = .next (assign16 s rm s.sregs.cs (opened (modrm16 1 rm) s)) ∧
        exec (.movRm16Ss rm) s = .next (assign16 s rm s.sregs.ss (opened (modrm16 2 rm) s)) ∧
        exec (.movRm16Ds rm) s = .next (assign16 s rm s.sregs.ds (opened (modrm16 3 rm) s))) ∧
    (∀ rm s, fresh s → canRead16 s rm →
      loadLaw .es (.movEsRm16 rm) s (opened (modrm16 0 rm) s) (operand16 s rm) ∧
        (s.bus.isExecutable (operand16 s rm) = true → exec (.movCsRm16 rm) s =
          .next { opened (modrm16 1 rm) s with sregs := { s.sregs with cs := operand16 s rm } }) ∧
        loadLaw .ss (.movSsRm16 rm) s (opened (modrm16 2 rm) s) (operand16 s rm) ∧
        loadLaw .ds (.movDsRm16 rm) s (opened (modrm16 3 rm) s) (operand16 s rm)) ∧
    (∀ s, canPush s → exec .pushEs s = .next (pushed s.sregs.es s) ∧ exec .pushCs s = .next (pushed s.sregs.cs s) ∧
      exec .pushSs s = .next (pushed s.sregs.ss s) ∧ exec .pushDs s = .next (pushed s.sregs.ds s)) ∧
    ∀ s, canPop s 0 →
      loadLaw .es .popEs s (s.setSP (s.regs.sp + 2)) (stacked s 0) ∧
        loadLaw .ss .popSs s (s.setSP (s.regs.sp + 2)) (stacked s 0) ∧
        loadLaw .ds .popDs s (s.setSP (s.regs.sp + 2)) (stacked s 0)

/-- LEA writes the offset of its operand and reads no memory. LDS and LES, with both words of the pointer readable,
write the first word to the register and the second to DS or ES, the second word's offset wrapped in the
segment; where the host's SEG_LOAD_CHECK refuses the second word, the fault is handled with the register already
written and the segment register as before, which is log 24 of the model. BOUND changes nothing but the operand
cache when the register, read as signed, lies within the signed pair, and handles BoundRange otherwise. Cites
spec/46_operand_access_moves.md section 3, spec/48_control_transfer.md section 6. -/
def Obligations.AddressLoads : Prop :=
  (∀ r m s, fresh s → exec (.leaR16M r m) s = .next ((opened (modrmMem r.num m) s).setReg16 r (eaOff s m))) ∧
    (∀ r m s, fresh s → pairReadable s m →
      let o := (opened (modrmMem r.num m) s).setReg16 r (pairLow s m)
      loadLaw .ds (.ldsR16M r m) s o (pairHigh s m) ∧ loadLaw .es (.lesR16M r m) s o (pairHigh s m)) ∧
    ∀ r m s, fresh s → pairReadable s m →
      ((pairLow s m).toInt ≤ (s.reg16 r).toInt ∧ (s.reg16 r).toInt ≤ (pairHigh s m).toInt →
          exec (.boundR16M r m) s = .next (opened (modrmMem r.num m) s)) ∧
        ((s.reg16 r).toInt < (pairLow s m).toInt ∨ (pairHigh s m).toInt < (s.reg16 r).toInt →
          exec (.boundR16M r m) s = .next (handleFault .boundRange (opened (modrmMem r.num m) s)))

/-- XCHG of r/m and a register, with the operand readable and writable, gives each the other's value, the address
formed before the exchange; XCHG AX with each of the other seven registers swaps them; XLAT, with the byte
readable, loads AL from BX plus the unsigned AL in DS or the override; CBW makes AX the sign extension of AL,
CWD makes DX the sign of AX. No flag changes. Cites spec/46_operand_access_moves.md section 4. -/
def Obligations.ExchangeAndConvert : Prop :=
  (∀ rm r s, fresh s → canRead8 s rm → canWrite8 s rm → exec (.xchgRm8R8 rm r) s =
      .next ((assign8 s rm (s.reg8 r) (opened (modrm8 r.num rm) s)).setReg8 r (operand8 s rm))) ∧
    (∀ rm r s, fresh s → canRead16 s rm → canWrite16 s rm → exec (.xchgRm16R16 rm r) s =
      .next ((assign16 s rm (s.reg16 r) (opened (modrm16 r.num rm) s)).setReg16 r (operand16 s rm))) ∧
    (∀ s : State, exec .xchgAxCx s = .next { s with regs := { s.regs with ax := s.regs.cx, cx := s.regs.ax } } ∧
      exec .xchgAxDx s = .next { s with regs := { s.regs with ax := s.regs.dx, dx := s.regs.ax } } ∧
      exec .xchgAxBx s = .next { s with regs := { s.regs with ax := s.regs.bx, bx := s.regs.ax } } ∧
      exec .xchgAxSp s = .next { s with regs := { s.regs with ax := s.regs.sp, sp := s.regs.ax } } ∧
      exec .xchgAxBp s = .next { s with regs := { s.regs with ax := s.regs.bp, bp := s.regs.ax } } ∧
      exec .xchgAxSi s = .next { s with regs := { s.regs with ax := s.regs.si, si := s.regs.ax } } ∧
      exec .xchgAxDi s = .next { s with regs := { s.regs with ax := s.regs.di, di := s.regs.ax } }) ∧
    ∀ s : State,
      (readable8 s (s.segmentOr .ds) (s.regs.bx + (s.reg8 .al).setWidth 16) → exec .xlat s =
          .next (s.setReg8 .al (s.byteAt (s.segmentOr .ds) (s.regs.bx + (s.reg8 .al).setWidth 16)))) ∧
        exec .cbw s = .next { s with regs := { s.regs with ax := BitVec.ofInt 16 (s.reg8 .al).toInt } } ∧
        exec .cwd s =
          .next { s with regs := { s.regs with dx := if s.regs.ax.toInt < 0 then 0xFFFF else 0x0000 } }

/-- IN writes AL, or AX, with what the port bus answers, the low byte from the port and the high byte from the next
port modulo 2^16, and only the port bus's own record changes beside; OUT hands AL, or AL and then AH, to the
port and the next one. The port is the unsigned immediate or DX. An answer that is not scripted is a free value,
of which nothing is said. The scripted answers, the free value and the record of writes are log 5 of the model.
Cites spec/46_operand_access_moves.md section 5, spec/20_memory.md section 6. -/
def Obligations.PortForms : Prop :=
  ∀ (s : State) (imm : Byte),
    inByte (.inAlImm8 imm) s (imm.setWidth 16) ∧ inByte .inAlDx s s.regs.dx ∧
      inWord (.inAxImm8 imm) s (imm.setWidth 16) ∧ inWord .inAxDx s s.regs.dx ∧
      exec (.outImm8Al imm) s = .next (sentPort s [(imm.setWidth 16, s.reg8 .al)]) ∧
      exec .outDxAl s = .next (sentPort s [(s.regs.dx, s.reg8 .al)]) ∧
      exec (.outImm8Ax imm) s =
        .next (sentPort s [(imm.setWidth 16, s.reg8 .al), (imm.setWidth 16 + 1, s.reg8 .ah)]) ∧
      exec .outDxAx s = .next (sentPort s [(s.regs.dx, s.reg8 .al), (s.regs.dx + 1, s.reg8 .ah)])

/-- With the stack words writable or readable: PUSH of a register, of a readable r/m16 and of an immediate, the byte
one sign-extended, writes the value at SS:SP-2 and lowers SP by 2; PUSH SP writes the new SP under PUSH_SP_NEW
and the old one otherwise, in both its forms. POP loads the destination after SP is raised, so that POP SP
leaves the popped value. PUSHA pushes AX, CX, DX, BX, the old SP, BP, SI, DI; POPA loads them back but for SP,
which ends 16 higher. Where the bus refuses one of the eight accesses, the fault is handled with the earlier
pushes made and SP at the last of them, or with the earlier registers loaded and SP past them; where it refuses
the write of POP r/m16, with SP already raised. The byte a write refused at its second byte leaves is log 10 of
the model. Cites spec/47_stack.md sections 1 to 4, spec/60_exceptions.md section 4. -/
def Obligations.PushPopForms : Prop :=
  (∀ r s, canPush s → exec (.pushR16 r) s = .next (pushed (pushValue r s) s)) ∧
    (∀ rm s, fresh s → canRead16 s rm → canPush s → exec (.pushRm16 rm) s =
      .next (pushed
        (match rm with
          | .reg r => pushValue r s
          | .mem _ => operand16 s rm)
        (opened (modrm16 6 rm) s))) ∧
    (∀ imm s, canPush s → exec (.pushImm16 imm) s = .next (pushed imm s)) ∧
    (∀ (imm : Byte) s, canPush s → exec (.pushImm8s imm) s = .next (pushed (imm.signExtend 16) s)) ∧
    (∀ r s, canPop s 0 → exec (.popR16 r) s = .next ((s.setSP (s.regs.sp + 2)).setReg16 r (stacked s 0))) ∧
    (∀ rm s, fresh s → canPop s 0 → canWrite16 s rm → exec (.popRm16 rm) s =
      .next (assign16 s rm (stacked s 0) ((opened (modrm16 0 rm) s).setSP (s.regs.sp + 2)))) ∧
    (∀ s : State, (∀ off, writable8 s s.sregs.ss off) → exec .pusha s =
      .next (pushed s.regs.di (pushed s.regs.si (pushed s.regs.bp (pushed s.regs.sp (pushed s.regs.bx
        (pushed s.regs.dx (pushed s.regs.cx (pushed s.regs.ax s))))))))) ∧
    (∀ s : State, (∀ off, readable8 s s.sregs.ss off) → exec .popa s =
      .next { s with
        regs := ⟨stacked s 14, stacked s 12, stacked s 10, stacked s 8, s.regs.sp + 16, stacked s 4, stacked s 2,
          stacked s 0⟩ }) ∧
    (∀ (s t : State) (k : Nat) (v : Word) (f : CpuFault), (pushaWords s)[k]? = some v → canPushAll s k →
      pushRefused (pushedAll ((pushaWords s).take k) s) v f t → exec .pusha s = .next (handleFault f t)) ∧
    (∀ (s : State) (k : Nat) (f : CpuFault), k < 8 → (∀ i < k, canPop s (BitVec.ofNat 16 (2 * i))) →
      let u := poppedAll (popaOrder.take k) s
      wordReadRefused u u.sregs.ss u.regs.sp f → exec .popa s = .next (handleFault f u)) ∧
    ∀ (e : MemEA) (s : State) (f : CpuFault), fresh s →
      let o := opened (modrm16 0 (.mem e)) s
      (wordReadRefused s s.sregs.ss s.regs.sp f → exec (.popRm16 (.mem e)) s = .next (handleFault f o)) ∧
        ∀ t, canPop s 0 →
          wordWriteRefused (o.setSP (s.regs.sp + 2)) (eaSeg s e) (eaOff s e) (stacked s 0) f t →
          exec (.popRm16 (.mem e)) s = .next (handleFault f t)

/-- With the stack segment readable and writable, ENTER completes for every size and level: with L the level modulo
32, BP is the SP after the first push, SP is lower by 2, by 2 for each of the L levels and by the size; in
memory in its canonical form the old BP stands at the new BP, and for L above 0 the new BP at SS:BP-2L; only the
words from SS:BP down to SS:BP-2L, SP and BP change. It needs no byte but those it reads and pushes: it pushes
BP, then for L above 0 copies L - 1 words, each read 2 below the last, the first 2 below the old BP, and pushed
before the next is read, then pushes the new BP. LEAVE, with the word at SS:BP readable, loads BP from it and
leaves SP two above the old BP. Where the bus refuses an access, the fault is handled with what was done before
it kept: for LEAVE SP the old BP; for ENTER the earlier pushes, SP at the last of them and BP lowered by 2 for
each copy begun. The byte a push refused at its second byte leaves is log 10 of the model. Cites
spec/47_stack.md sections 1 and 5, spec/60_exceptions.md section 4. -/
def Obligations.EnterAndLeave : Prop :=
  (∀ (size : Word) (level : Byte) (s : State), (∀ off, readable8 s s.sregs.ss off ∧ writable8 s s.sregs.ss off) →
      let l := level.toNat % 32
      let frame := s.regs.sp - 2
      ∃ t, exec (.enterImm16Imm8 size level) s = .next t ∧ t.regs.bp = frame ∧
        t.regs.sp = frame - BitVec.ofNat 16 (2 * l) - size ∧ t.ip = s.ip ∧
        (s.mem.wf → t.wordAt s.sregs.ss frame = s.regs.bp ∧
          (l ≠ 0 → t.wordAt s.sregs.ss (frame - BitVec.ofNat 16 (2 * l)) = frame)) ∧
        framed s t [.sp, .bp] false
          ((List.range (l + 1)).flatMap fun k => wordCells s s.sregs.ss (frame - BitVec.ofNat 16 (2 * k)))) ∧
    (∀ s : State, readable16 s s.sregs.ss s.regs.bp → exec .leave s =
      .next { s with regs := { s.regs with sp := s.regs.bp + 2, bp := s.wordAt s.sregs.ss s.regs.bp } }) ∧
    (∀ (s : State) (f : CpuFault), wordReadRefused s s.sregs.ss s.regs.bp f →
      exec .leave s = .next (handleFault f (s.setSP s.regs.bp))) ∧
    ∀ (size : Word) (level : Byte) (s t : State) (f : CpuFault),
      let l := level.toNat % 32
      let frame := s.regs.sp - 2
      let copied (j : Nat) : State :=
        (framesCopied j s.regs.bp (pushed s.regs.bp s)).setReg16 .bp (s.regs.bp - BitVec.ofNat 16 (2 * j))
      (copiesOpen s (l - 1) → (l ≠ 0 → writable16 s s.sregs.ss (frame - BitVec.ofNat 16 (2 * l))) →
          let u := if l = 0 then copied 0 else pushed frame (copied (l - 1))
          exec (.enterImm16Imm8 size level) s =
            .next { u with regs := { u.regs with bp := frame, sp := u.regs.sp - size } }) ∧
        (pushRefused s s.regs.bp f t → exec (.enterImm16Imm8 size level) s = .next (handleFault f t)) ∧
        (∀ j, j + 1 < l → copiesOpen s j →
          let u := (copied j).setReg16 .bp (s.regs.bp - BitVec.ofNat 16 (2 * (j + 1)))
          (wordReadRefused u u.sregs.ss u.regs.bp f →
              exec (.enterImm16Imm8 size level) s = .next (handleFault f u)) ∧
            (readable16 u u.sregs.ss u.regs.bp → pushRefused u (u.wordAt u.sregs.ss u.regs.bp) f t →
              exec (.enterImm16Imm8 size level) s = .next (handleFault f t))) ∧
        (l ≠ 0 → copiesOpen s (l - 1) → pushRefused (copied (l - 1)) frame f t →
          exec (.enterImm16Imm8 size level) s = .next (handleFault f t))

/-- A relative jump adds the sign-extended byte or the word to the IP after the instruction, modulo 2^16; each
conditional jump does so exactly when the flags meet its condition of the table, and changes nothing otherwise;
JCXZ when CX is 0; LOOP, LOOPE and LOOPNE lower CX by 1 and jump when it is not 0 and ZF is as they ask. JMP
r/m16 loads IP from the readable operand; the far forms load CS and IP when the selector is executable. Cites
spec/48_control_transfer.md sections 1 to 3. -/
def Obligations.JumpForms : Prop :=
  (∀ (rel : Byte) (s : State), exec (.jmpRel8 rel) s = .next (s.setIP (s.ip + rel.signExtend 16))) ∧
    (∀ (rel : Word) (s : State), exec (.jmpRel16 rel) s = .next (s.setIP (s.ip + rel))) ∧
    (jcc .joRel8 (fun f => f.of_ = true) ∧ jcc .jnoRel8 (fun f => f.of_ = false) ∧
      jcc .jbRel8 (fun f => f.cf = true) ∧ jcc .jaeRel8 (fun f => f.cf = false) ∧
      jcc .jeRel8 (fun f => f.zf = true) ∧ jcc .jneRel8 (fun f => f.zf = false) ∧
      jcc .jbeRel8 (fun f => f.cf = true ∨ f.zf = true) ∧ jcc .jaRel8 (fun f => f.cf = false ∧ f.zf = false) ∧
      jcc .jsRel8 (fun f => f.sf = true) ∧ jcc .jnsRel8 (fun f => f.sf = false) ∧
      jcc .jpRel8 (fun f => f.pf = true) ∧ jcc .jnpRel8 (fun f => f.pf = false) ∧
      jcc .jlRel8 (fun f => f.sf ≠ f.of_) ∧ jcc .jgeRel8 (fun f => f.sf = f.of_) ∧
      jcc .jleRel8 (fun f => f.zf = true ∨ f.sf ≠ f.of_) ∧ jcc .jgRel8 (fun f => f.zf = false ∧ f.sf = f.of_)) ∧
    (∀ (rel : Byte) (s : State), (s.regs.cx = 0 → exec (.jcxzRel8 rel) s = .next (s.setIP (s.ip + rel.signExtend 16))) ∧
      (s.regs.cx ≠ 0 → exec (.jcxzRel8 rel) s = .next s)) ∧
    (loops .loopRel8 (fun _ => True) ∧ loops .loopeRel8 (fun f => f.zf = true) ∧
      loops .loopneRel8 (fun f => f.zf = false)) ∧
    (∀ rm s, fresh s → canRead16 s rm →
      exec (.jmpRm16 rm) s = .next ((opened (modrm16 4 rm) s).setIP (operand16 s rm))) ∧
    (∀ (off sel : Word) (s : State), s.bus.isExecutable sel = true →
      exec (.jmpFarDirect off sel) s = .next ((s.setSReg .cs sel).setIP off)) ∧
    ∀ m s, fresh s → pairReadable s m → s.bus.isExecutable (pairHigh s m) = true →
      exec (.jmpFarMem m) s = .next (((opened (modrmMem 5 m) s).setSReg .cs (pairHigh s m)).setIP (pairLow s m))

/-- With the stack words writable or readable and a new selector executable: a near CALL pushes the IP after the
instruction and goes to its target, an indirect one to the target read before the push; a far CALL pushes CS and
then IP and loads CS:IP. RET and RETF take IP, and CS for RETF, from the stack and release their words and n
more bytes; IRET takes IP, CS and all nine flags and releases 6 bytes; that the flag record keeps its operands,
raw result and width then is log 12 of the model. Where the bus refuses the push of a CALL, the fault is handled
with SP, CS and IP as before it: of a far CALL the first push stays made when the second is refused. The byte a
push refused at its second byte leaves is log 10 of the model. Cites spec/48_control_transfer.md sections 4 and
5, spec/60_exceptions.md section 4, spec/47_stack.md section 1. -/
def Obligations.CallAndReturnForms : Prop :=
  (∀ rel s, canPush s → exec (.callRel16 rel) s = .next ((pushed s.ip s).setIP (s.ip + rel))) ∧
    (∀ rm s, fresh s → canRead16 s rm → canPush s →
      exec (.callRm16 rm) s = .next ((pushed s.ip (opened (modrm16 2 rm) s)).setIP (operand16 s rm))) ∧
    (∀ off sel s, s.bus.isExecutable sel = true → canPush s → writable16 s s.sregs.ss (s.regs.sp - 4) →
      exec (.callFarDirect off sel) s =
        .next (((pushed s.ip (pushed s.sregs.cs s)).setSReg .cs sel).setIP off)) ∧
    (∀ m s, fresh s → pairReadable s m → s.bus.isExecutable (pairHigh s m) = true → canPush s →
      writable16 s s.sregs.ss (s.regs.sp - 4) →
      exec (.callFarMem m) s =
        .next (((pushed s.ip (pushed s.sregs.cs (opened (modrmMem 3 m) s))).setSReg .cs (pairHigh s m)).setIP
          (pairLow s m))) ∧
    (∀ (n : Word) (s : State), canPop s 0 →
      exec .ret s = .next ((s.setIP (stacked s 0)).setSP (s.regs.sp + 2)) ∧
        exec (.retImm16 n) s = .next ((s.setIP (stacked s 0)).setSP (s.regs.sp + 2 + n)) ∧
        (canPop s 2 → s.bus.isExecutable (stacked s 2) = true →
          let t := (s.setSReg .cs (stacked s 2)).setIP (stacked s 0)
          exec .retf s = .next (t.setSP (s.regs.sp + 4)) ∧
            exec (.retfImm16 n) s = .next (t.setSP (s.regs.sp + 4 + n)) ∧
            (canPop s 4 →
              exec .iret s = .next ((t.setFlags (setFlags16 (stacked s 4) s.fe)).setSP (s.regs.sp + 6))))) ∧
    (∀ rel s f t, pushRefused s s.ip f t → exec (.callRel16 rel) s = .next (handleFault f t)) ∧
    (∀ rm s f t, fresh s → canRead16 s rm → pushRefused (opened (modrm16 2 rm) s) s.ip f t →
      exec (.callRm16 rm) s = .next (handleFault f t)) ∧
    (∀ off sel s, s.bus.isExecutable sel = true → farPushFaults (.callFarDirect off sel) s s) ∧
    ∀ m s, fresh s → pairReadable s m → s.bus.isExecutable (pairHigh s m) = true →
      farPushFaults (.callFarMem m) s (opened (modrmMem 3 m) s)

/-- Without a debugger hook, and with one that has no answer left, INT n dispatches vector n, INT3 vector
VEC_BREAKPOINT and INTO, with OF set, vector VEC_OVERFLOW, as software interrupts at the state as it is, whose
IP is after the instruction; INTO with OF clear changes nothing. Where the debugger's next answer is no, nothing
is dispatched and only its writes are made; where it is yes, the vector is dispatched after them. The scripted
hook, and that one with no answer left allows, is log 8 of the model, what a refusal leaves log 27. Cites
spec/48_control_transfer.md section 5, spec/60_exceptions.md section 2. -/
def Obligations.SoftwareInterruptForms : Prop :=
  (∀ (s : State) (n : Byte), s.hooks.debug = none ∨ (∃ c, s.hooks.debug = some ⟨c, []⟩) →
      exec (.intImm8 n) s = .next (dispatch n .software none s) ∧
        exec .int3 s = .next (dispatch s.params.vecBreakpoint .software none s) ∧
        (s.fe.of_ = true → exec .into s = .next (dispatch s.params.vecOverflow .software none s))) ∧
    (∀ s : State, s.fe.of_ = false → exec .into s = .next s) ∧
    ∀ (s : State) (n : Byte) (c l : List HookAnswer) (a : HookAnswer), s.hooks.debug = some ⟨c, a :: l⟩ →
      let t := applyWrites a.writes { s with hooks := { s.hooks with debug := some ⟨c, l⟩ } }
      let allowed (v : Byte) := if a.yes then dispatch v .software none t else t
      exec (.intImm8 n) s = .next (allowed n) ∧ exec .int3 s = .next (allowed s.params.vecBreakpoint) ∧
        (s.fe.of_ = true → exec .into s = .next (allowed s.params.vecOverflow))

/-- Without a repeat prefix, and with the bytes it reads readable and those it writes writable, each string
instruction handles one element of its width: the source at SI in DS or the override, the destination at DI in
ES, the accumulator or the port of DX; each pointer it uses moves by the width, up with DF clear and down with
DF set; CMPS and SCAS set the flags of the subtraction, the source or the accumulator first; INS and OUTS change
the record of the port bus, which is log 5 of the model: the scripted answers used up, the count of reads, the
bytes written; nothing else changes. Cites spec/49_string_prefix_system.md sections 1 and 2. -/
def Obligations.StringElements : Prop :=
  ∀ s : State, s.rep = .none →
    let seg := s.segmentOr .ds
    let src8 := s.byteAt seg s.regs.si
    let src16 := s.wordAt seg s.regs.si
    let dst8 := s.byteAt s.sregs.es s.regs.di
    let dst16 := s.wordAt s.sregs.es s.regs.di
    (readable8 s seg s.regs.si →
      (writable8 s s.sregs.es s.regs.di →
          exec .movsb s = .next (moved s 1 true true (s.putByte s.sregs.es s.regs.di src8))) ∧
        (readable8 s s.sregs.es s.regs.di →
          exec .cmpsb s = .next (moved s 1 true true (s.setFlags (AluOp.apply .sub src8 dst8 s.fe).2))) ∧
        exec .lodsb s = .next (moved s 1 true false (s.setReg8 .al src8)) ∧
        exec .outsb s = .next (moved s 1 true false (sentPort s [(s.regs.dx, src8)]))) ∧
      (readable16 s seg s.regs.si →
        (writable16 s s.sregs.es s.regs.di →
            exec .movsw s = .next (moved s 2 true true (s.putWord s.sregs.es s.regs.di src16))) ∧
          (readable16 s s.sregs.es s.regs.di →
            exec .cmpsw s = .next (moved s 2 true true (s.setFlags (AluOp.apply .sub src16 dst16 s.fe).2))) ∧
          exec .lodsw s = .next (moved s 2 true false (s.setReg16 .ax src16)) ∧
          exec .outsw s = .next (moved s 2 true false
            (sentPort s [(s.regs.dx, src16.extractLsb' 0 8), (s.regs.dx + 1, src16.extractLsb' 8 8)]))) ∧
      (readable8 s s.sregs.es s.regs.di →
        exec .scasb s = .next (moved s 1 false true (s.setFlags (AluOp.apply .sub (s.reg8 .al) dst8 s.fe).2))) ∧
      (readable16 s s.sregs.es s.regs.di →
        exec .scasw s = .next (moved s 2 false true (s.setFlags (AluOp.apply .sub s.regs.ax dst16 s.fe).2))) ∧
      (writable8 s s.sregs.es s.regs.di →
        exec .stosb s = .next (moved s 1 false true (s.putByte s.sregs.es s.regs.di (s.reg8 .al))) ∧
          exec .insb s = .next (moved s 1 false true ({ s with ports := afterRead s.ports s.regs.dx }.putByte
            s.sregs.es s.regs.di (s.ports.answer s.regs.dx)))) ∧
      (writable16 s s.sregs.es s.regs.di →
        exec .stosw s = .next (moved s 2 false true (s.putWord s.sregs.es s.regs.di s.regs.ax)) ∧
          exec .insw s = .next (moved s 2 false true
            ({ s with ports := afterRead (afterRead s.ports s.regs.dx) (s.regs.dx + 1) }.putWord s.sregs.es s.regs.di
              ((afterRead s.ports s.regs.dx).answer (s.regs.dx + 1) ++ s.ports.answer s.regs.dx))))

/-- Under a repeat prefix, for each of the fourteen string instructions: with CX 0 nothing happens; otherwise, when
the iteration completes, the instruction is what it is from the state after the iteration with CX one lower,
except that CMPS and SCAS end there when the prefix is REPE and ZF is clear or REPNE and ZF is set; when the
iteration raises a fault, that fault is handled with the earlier iterations committed. Cites
spec/49_string_prefix_system.md section 3. -/
def Obligations.RepeatPrefixLoop : Prop :=
  repeats .movsb movs8 false ∧ repeats .movsw movs16 false ∧ repeats .cmpsb cmps8 true ∧ repeats .cmpsw cmps16 true ∧
    repeats .scasb scas8 true ∧ repeats .scasw scas16 true ∧ repeats .lodsb lods8 false ∧ repeats .lodsw lods16 false ∧
    repeats .stosb stos8 false ∧ repeats .stosw stos16 false ∧ repeats .insb ins8 false ∧ repeats .insw ins16 false ∧
    repeats .outsb outs8 false ∧ repeats .outsw outs16 false

/-- Under a repeat prefix, with every byte of the source segment readable and of ES writable, MOVSB completes in one
execution for every CX from 0 to 65535: CX is 0, SI and DI have moved by the old CX in the direction of DF
modulo 2^16, and every other register, every flag and every byte of memory outside the CX destination bytes is
as before. With memory in its canonical form and no destination byte among the source bytes, each destination
byte holds what its source byte held. Cites spec/49_string_prefix_system.md section 3. -/
def Obligations.RepMovsbCopies : Prop :=
  ∀ s : State, s.rep ≠ .none → (∀ off, readable8 s (s.segmentOr .ds) off) → (∀ off, writable8 s s.sregs.es off) →
    ∃ t, exec .movsb s = .next t ∧ t.regs.cx = 0 ∧ t.ip = s.ip ∧
      t.regs.si = (if s.fe.df then s.regs.si - s.regs.cx else s.regs.si + s.regs.cx) ∧
      t.regs.di = (if s.fe.df then s.regs.di - s.regs.cx else s.regs.di + s.regs.cx) ∧
      framed s t [.cx, .si, .di] false
        ((List.range s.regs.cx.toNat).map fun k =>
          busAddr s.bus.map s.sregs.es (stringOff s s.regs.di k)) ∧
      (s.mem.wf → (∀ j < s.regs.cx.toNat, ∀ k < s.regs.cx.toNat,
          busAddr s.bus.map (s.segmentOr .ds) (stringOff s s.regs.si j) ≠
            busAddr s.bus.map s.sregs.es (stringOff s s.regs.di k)) →
        ∀ k < s.regs.cx.toNat,
          t.byteAt s.sregs.es (stringOff s s.regs.di k) = s.byteAt (s.segmentOr .ds) (stringOff s s.regs.si k))

/-- HLT sets halted and nothing else; NOP changes nothing; with ESC_BEHAVIOUR = nop WAIT changes nothing and ESC
only decodes its operand; with invalid both handle InvalidOpcode, ESC with IP after its opcode byte; each prefix
sets its part of the prefix state and nothing else. That a prefix is an instruction of its own is log 16 of the
model. Cites spec/49_string_prefix_system.md section 4, spec/30_encoding.md section 2. -/
def Obligations.SystemForms : Prop :=
  (∀ s : State, exec .hlt s = .next { s with halted := true } ∧ exec .nop s = .next s ∧
      (s.params.esc = .nop → exec .wait s = .next s) ∧
      (s.params.esc = .invalid → exec .wait s = .next (handleFault .invalidOpcode s))) ∧
    (∀ n g rm s, (s.params.esc = .nop → fresh s → exec (.esc n g rm) s = .next (opened (modrm16 g rm) s)) ∧
      (s.params.esc = .invalid → exec (.esc n g rm) s =
        .next (handleFault .invalidOpcode
          (s.setIP (s.ip - BitVec.ofNat 16 ((encode (.esc n g rm)).length - 1)))))) ∧
    ∀ (s : State) (i : Instr), i.isPrefix = true → exec i s = .next (prefixState i s)

/-- For every instruction and state, without a debugger or interrupt hook, whatever faults and dispatches the
execution contains: the parameters, RESET, the hooks, the bus, ip_start, the pending slot, the budget and
abort_requested are as before; halted changes by HLT alone; the prefix state by the prefixes alone; DF by CLD,
STD, POPF and IRET alone; IF is set by STI, POPF and IRET alone; TF is set by POPF and IRET alone and cleared by
others only under DISPATCH_CLEARS_TF. Cites spec/10_state.md sections 4 and 7, spec/45_flag_ops.md sections 1
and 3, spec/48_control_transfer.md section 5, spec/49_string_prefix_system.md section 4, spec/60_exceptions.md
sections 2 and 3. -/
def Obligations.WhatNoInstructionChanges : Prop :=
  ∀ (i : Instr) (s t : State), s.hooks.debug = none → s.hooks.hostInt = none → exec i s = .next t →
    t.params = s.params ∧ t.launch = s.launch ∧ t.hooks = s.hooks ∧ t.callbackAborts = s.callbackAborts ∧
      t.bus = s.bus ∧ t.ipStart = s.ipStart ∧ t.pending = s.pending ∧
      t.budget = s.budget ∧ t.abortRequested = s.abortRequested ∧ (i ≠ .hlt → t.halted = s.halted) ∧
      (i.isPrefix = false → t.segOverride = s.segOverride ∧ t.rep = s.rep ∧ t.lock = s.lock) ∧
      (i ∉ [.cld, .std, .popf, .iret] → t.fe.df = s.fe.df) ∧
      (i ∉ [.sti, .popf, .iret] → t.fe.if_ = true → s.fe.if_ = true) ∧
      (i ∉ [.popf, .iret] → t.fe.tf = s.fe.tf ∨ (s.params.dispatchClearsTf = true ∧ t.fe.tf = false))

/-- The forms that write r/m (ADD, OR, ADC, SBB, AND, SUB, XOR, INC, DEC, NEG, NOT, the shifts and rotates, MOV and
XCHG), when the operand is readable and writable and they answer a next state, leave unchanged: every general
register but a register destination, and for XCHG its register; the segment registers, TF, IF, DF and the
machinery; all flags for NOT, MOV and XCHG; the ports; and every byte of memory but the one or two bytes at the
address of a memory destination. MOVS, STOS and INS without a repeat prefix leave all but the element at ES:DI,
their pointers and, for INS, the port bus unchanged. Cites spec/40_alu_arith.md section 3, spec/41_alu_logic.md,
spec/43_alu_shift_rotate.md section 4, spec/46_operand_access_moves.md sections 1 to 4,
spec/49_string_prefix_system.md sections 1 and 2. -/
def Obligations.FrameOfStoringForms : Prop :=
  (∀ op rm r, op ≠ .cmp →
      FrameLaw (aluRmR8Of op rm r) (fun s => canRead8 s rm ∧ canWrite8 s rm) (destRegs8 rm) true (stored8 · rm)) ∧
    (∀ op rm r, op ≠ .cmp →
      FrameLaw (aluRmR16Of op rm r) (fun s => canRead16 s rm ∧ canWrite16 s rm) (destRegs16 rm) true (stored16 · rm)) ∧
    (∀ op rm imm, op ≠ .cmp →
      FrameLaw (aluRmImm8Of op rm imm) (fun s => canRead8 s rm ∧ canWrite8 s rm) (destRegs8 rm) true (stored8 · rm) ∧
      FrameLaw (aluRmImm8Op82Of op rm imm) (fun s => canRead8 s rm ∧ canWrite8 s rm) (destRegs8 rm) true
        (stored8 · rm)) ∧
    (∀ op rm, op ≠ .cmp →
      (∀ imm, FrameLaw (aluRmImm16Of op rm imm) (fun s => canRead16 s rm ∧ canWrite16 s rm) (destRegs16 rm) true
          (stored16 · rm)) ∧
        ∀ imm, FrameLaw (aluRmImm8sOf op rm imm) (fun s => canRead16 s rm ∧ canWrite16 s rm) (destRegs16 rm) true
          (stored16 · rm)) ∧
    (∀ rm i, (i = .incRm8 rm ∨ i = .decRm8 rm ∨ i = .negRm8 rm ∨ (∃ op, i = shiftRm8By1Of op rm) ∨
        (∃ op, i = shiftRm8ClOf op rm) ∨ ∃ op imm, i = shiftRmImm8Of op rm imm) →
      FrameLaw i (fun s => canRead8 s rm ∧ canWrite8 s rm) (destRegs8 rm) true (stored8 · rm)) ∧
    (∀ rm i, (i = .incRm16 rm ∨ i = .decRm16 rm ∨ i = .negRm16 rm ∨ (∃ op, i = shiftRm16By1Of op rm) ∨
        (∃ op, i = shiftRm16ClOf op rm) ∨ ∃ op imm, i = shiftRm16ImmOf op rm imm) →
      FrameLaw i (fun s => canRead16 s rm ∧ canWrite16 s rm) (destRegs16 rm) true (stored16 · rm)) ∧
    (∀ rm i, (i = .notRm8 rm ∨ (∃ r, i = .movRm8R8 rm r) ∨ ∃ imm, i = .movRm8Imm8 rm imm) →
      FrameLaw i (fun s => canRead8 s rm ∧ canWrite8 s rm) (destRegs8 rm) false (stored8 · rm)) ∧
    (∀ rm i, (i = .notRm16 rm ∨ (∃ r, i = .movRm16R16 rm r) ∨ (∃ imm, i = .movRm16Imm16 rm imm) ∨
        i = .movRm16Es rm ∨ i = .movRm16Cs rm ∨ i = .movRm16Ss rm ∨ i = .movRm16Ds rm) →
      FrameLaw i (fun s => canRead16 s rm ∧ canWrite16 s rm) (destRegs16 rm) false (stored16 · rm)) ∧
    (∀ rm r, FrameLaw (.xchgRm8R8 rm r) (fun s => canRead8 s rm ∧ canWrite8 s rm) (parentReg r :: destRegs8 rm) false
      (stored8 · rm)) ∧
    (∀ rm r, FrameLaw (.xchgRm16R16 rm r) (fun s => canRead16 s rm ∧ canWrite16 s rm) (r :: destRegs16 rm) false
      (stored16 · rm)) ∧
    (∀ a, FrameLaw (.movMoffs8Al a) (fun s => writable8 s (s.segmentOr .ds) a) [] false
        (fun s => [busAddr s.bus.map (s.segmentOr .ds) a]) ∧
      FrameLaw (.movMoffs16Ax a) (fun s => writable16 s (s.segmentOr .ds) a) [] false
        (fun s => wordCells s (s.segmentOr .ds) a)) ∧
    ReachLaw .movsb (fun s => s.rep = .none ∧ elementRead8 s ∧ elementWrite8 s) { regs := [.si, .di] } element8 ∧
    ReachLaw .movsw (fun s => s.rep = .none ∧ elementRead16 s ∧ elementWrite16 s) { regs := [.si, .di] } element16 ∧
    ReachLaw .stosb (fun s => s.rep = .none ∧ elementWrite8 s) { regs := [.di] } element8 ∧
    ReachLaw .stosw (fun s => s.rep = .none ∧ elementWrite16 s) { regs := [.di] } element16 ∧
    ReachLaw .insb (fun s => s.rep = .none ∧ elementWrite8 s) { regs := [.di], ports := true } element8 ∧
    ReachLaw .insw (fun s => s.rep = .none ∧ elementWrite16 s) { regs := [.di], ports := true } element16

/-- CMP and TEST in all forms, the ALU forms with a register destination or the accumulator, INC and DEC of a
register, MUL, IMUL, and DIV and IDIV where the quotient exists, the MOV forms with a register destination, LEA,
XLAT, CBW, CWD, XCHG AX, LAHF and SAHF, when their operand is readable and they answer a next state, leave every
byte of memory, the segment registers, TF, IF, DF, the ports, the machinery and every general register but the
named ones unchanged, and all flags where the form writes none. So do LDS, LES, MOV to a segment register, BOUND
inside its bounds, IN, OUT, and LODS, CMPS, SCAS and OUTS without a repeat prefix, where they complete, but for
the segment register, the pointer or the port bus they name. Cites spec/40_alu_arith.md section 3,
spec/41_alu_logic.md, spec/42_alu_muldiv.md sections 2 and 3, spec/45_flag_ops.md section 2,
spec/46_operand_access_moves.md sections 2 to 5, spec/48_control_transfer.md section 6,
spec/49_string_prefix_system.md sections 1 and 2. -/
def Obligations.FrameOfFormsWithoutStore : Prop :=
  (∀ rm r, FrameLaw (.cmpRm8R8 rm r) (canRead8 · rm) [] true (fun _ => []) ∧
      FrameLaw (.cmpR8Rm8 r rm) (canRead8 · rm) [] true (fun _ => []) ∧
      FrameLaw (.testRm8R8 rm r) (canRead8 · rm) [] true (fun _ => [])) ∧
    (∀ rm r, FrameLaw (.cmpRm16R16 rm r) (canRead16 · rm) [] true (fun _ => []) ∧
      FrameLaw (.cmpR16Rm16 r rm) (canRead16 · rm) [] true (fun _ => []) ∧
      FrameLaw (.testRm16R16 rm r) (canRead16 · rm) [] true (fun _ => [])) ∧
    (∀ rm imm, FrameLaw (.cmpRm8Imm8 rm imm) (canRead8 · rm) [] true (fun _ => []) ∧
      FrameLaw (.cmpRm8Imm8Op82 rm imm) (canRead8 · rm) [] true (fun _ => []) ∧
      FrameLaw (.testRm8Imm8 rm imm) (canRead8 · rm) [] true (fun _ => [])) ∧
    (∀ rm imm, FrameLaw (.cmpRm16Imm16 rm imm) (canRead16 · rm) [] true (fun _ => []) ∧
      FrameLaw (.testRm16Imm16 rm imm) (canRead16 · rm) [] true (fun _ => [])) ∧
    (∀ rm imm, FrameLaw (.cmpRm16Imm8s rm imm) (canRead16 · rm) [] true (fun _ => [])) ∧
    (∀ op r rm, FrameLaw (aluRRm8Of op r rm) (canRead8 · rm) [parentReg r] true (fun _ => [])) ∧
    (∀ op r rm, FrameLaw (aluRRm16Of op r rm) (canRead16 · rm) [r] true (fun _ => [])) ∧
    (∀ op imm, FrameLaw (aluAlImmOf op imm) (fun _ => True) [.ax] true (fun _ => [])) ∧
    (∀ op imm, FrameLaw (aluAxImmOf op imm) (fun _ => True) [.ax] true (fun _ => [])) ∧
    (∀ imm, FrameLaw (.testAlImm8 imm) (fun _ => True) [] true (fun _ => [])) ∧
    (∀ imm, FrameLaw (.testAxImm16 imm) (fun _ => True) [] true (fun _ => [])) ∧
    (∀ r, FrameLaw (.incR16 r) (fun _ => True) [r] true (fun _ => []) ∧
      FrameLaw (.decR16 r) (fun _ => True) [r] true (fun _ => [])) ∧
    (∀ rm, FrameLaw (.mulRm8 rm) (canRead8 · rm) [.ax] true (fun _ => []) ∧
      FrameLaw (.imulRm8 rm) (canRead8 · rm) [.ax] true (fun _ => []) ∧
      FrameLaw (.divRm8 rm)
        (fun s => canRead8 s rm ∧ udivide 8 s.regs.ax.toNat (operand8 s rm).toNat ≠ none) [.ax] true (fun _ => []) ∧
      FrameLaw (.idivRm8 rm)
        (fun s => canRead8 s rm ∧ sdivide 8 s.regs.ax.toInt (operand8 s rm).toInt ≠ none) [.ax] true (fun _ => [])) ∧
    (∀ rm, FrameLaw (.mulRm16 rm) (canRead16 · rm) [.ax, .dx] true (fun _ => []) ∧
      FrameLaw (.imulRm16 rm) (canRead16 · rm) [.ax, .dx] true (fun _ => []) ∧
      FrameLaw (.divRm16 rm)
        (fun s => canRead16 s rm ∧
          udivide 16 (s.regs.dx.toNat * 2 ^ 16 + s.regs.ax.toNat) (operand16 s rm).toNat ≠ none)
        [.ax, .dx] true (fun _ => []) ∧
      FrameLaw (.idivRm16 rm)
        (fun s => canRead16 s rm ∧
          sdivide 16 (s.regs.dx.toInt * 2 ^ 16 + s.regs.ax.toNat) (operand16 s rm).toInt ≠ none)
        [.ax, .dx] true (fun _ => [])) ∧
    (∀ r rm, (∀ imm, FrameLaw (.imulR16Rm16Imm16 r rm imm) (canRead16 · rm) [r] true (fun _ => [])) ∧
      (∀ imm, FrameLaw (.imulR16Rm16Imm8s r rm imm) (canRead16 · rm) [r] true (fun _ => [])) ∧
      FrameLaw (.movR16Rm16 r rm) (canRead16 · rm) [r] false (fun _ => [])) ∧
    (∀ r rm, FrameLaw (.movR8Rm8 r rm) (canRead8 · rm) [parentReg r] false (fun _ => [])) ∧
    (∀ r imm, FrameLaw (.movR8Imm8 r imm) (fun _ => True) [parentReg r] false (fun _ => [])) ∧
    (∀ r imm, FrameLaw (.movR16Imm16 r imm) (fun _ => True) [r] false (fun _ => [])) ∧
    (∀ a, FrameLaw (.movAlMoffs8 a) (fun s => readable8 s (s.segmentOr .ds) a) [.ax] false (fun _ => []) ∧
      FrameLaw (.movAxMoffs16 a) (fun s => readable16 s (s.segmentOr .ds) a) [.ax] false (fun _ => [])) ∧
    (∀ r m, FrameLaw (.leaR16M r m) (fun _ => True) [r] false (fun _ => [])) ∧
    FrameLaw .xlat (fun s => readable8 s (s.segmentOr .ds) (s.regs.bx + (s.reg8 .al).setWidth 16)) [.ax] false
      (fun _ => []) ∧
    FrameLaw .cbw (fun _ => True) [.ax] false (fun _ => []) ∧ FrameLaw .cwd (fun _ => True) [.dx] false (fun _ => []) ∧
    FrameLaw .xchgAxCx (fun _ => True) [.ax, .cx] false (fun _ => []) ∧
    FrameLaw .xchgAxDx (fun _ => True) [.ax, .dx] false (fun _ => []) ∧
    FrameLaw .xchgAxBx (fun _ => True) [.ax, .bx] false (fun _ => []) ∧
    FrameLaw .xchgAxSp (fun _ => True) [.ax, .sp] false (fun _ => []) ∧
    FrameLaw .xchgAxBp (fun _ => True) [.ax, .bp] false (fun _ => []) ∧
    FrameLaw .xchgAxSi (fun _ => True) [.ax, .si] false (fun _ => []) ∧
    FrameLaw .xchgAxDi (fun _ => True) [.ax, .di] false (fun _ => []) ∧
    FrameLaw .lahf (fun _ => True) [.ax] false (fun _ => []) ∧ FrameLaw .sahf (fun _ => True) [] true (fun _ => []) ∧
    (∀ r m, ReachLaw (.ldsR16M r m) (fun s => pairReadable s m ∧ s.hooks.segLoadFault .ds (pairHigh s m) = none)
        { regs := [r], sregs := [.ds] } (fun _ => []) ∧
      ReachLaw (.lesR16M r m) (fun s => pairReadable s m ∧ s.hooks.segLoadFault .es (pairHigh s m) = none)
        { regs := [r], sregs := [.es] } (fun _ => []) ∧
      ReachLaw (.boundR16M r m)
        (fun s => pairReadable s m ∧ (pairLow s m).toInt ≤ (s.reg16 r).toInt ∧ (s.reg16 r).toInt ≤ (pairHigh s m).toInt)
        {} (fun _ => [])) ∧
    (∀ rm, ReachLaw (.movEsRm16 rm) (fun s => canRead16 s rm ∧ s.hooks.segLoadFault .es (operand16 s rm) = none)
        { sregs := [.es] } (fun _ => []) ∧
      ReachLaw (.movCsRm16 rm) (fun s => canRead16 s rm ∧ s.bus.isExecutable (operand16 s rm) = true)
        { sregs := [.cs] } (fun _ => []) ∧
      ReachLaw (.movSsRm16 rm) (fun s => canRead16 s rm ∧ s.hooks.segLoadFault .ss (operand16 s rm) = none)
        { sregs := [.ss] } (fun _ => []) ∧
      ReachLaw (.movDsRm16 rm) (fun s => canRead16 s rm ∧ s.hooks.segLoadFault .ds (operand16 s rm) = none)
        { sregs := [.ds] } (fun _ => [])) ∧
    (∀ p, ReachLaw (.inAlImm8 p) (fun _ => True) { regs := [.ax], ports := true } (fun _ => []) ∧
      ReachLaw (.inAxImm8 p) (fun _ => True) { regs := [.ax], ports := true } (fun _ => []) ∧
      ReachLaw (.outImm8Al p) (fun _ => True) { ports := true } (fun _ => []) ∧
      ReachLaw (.outImm8Ax p) (fun _ => True) { ports := true } (fun _ => [])) ∧
    ReachLaw .inAlDx (fun _ => True) { regs := [.ax], ports := true } (fun _ => []) ∧
    ReachLaw .inAxDx (fun _ => True) { regs := [.ax], ports := true } (fun _ => []) ∧
    ReachLaw .outDxAl (fun _ => True) { ports := true } (fun _ => []) ∧
    ReachLaw .outDxAx (fun _ => True) { ports := true } (fun _ => []) ∧
    ReachLaw .lodsb (fun s => s.rep = .none ∧ elementRead8 s) { regs := [.ax, .si] } (fun _ => []) ∧
    ReachLaw .lodsw (fun s => s.rep = .none ∧ elementRead16 s) { regs := [.ax, .si] } (fun _ => []) ∧
    ReachLaw .outsb (fun s => s.rep = .none ∧ elementRead8 s) { regs := [.si], ports := true } (fun _ => []) ∧
    ReachLaw .outsw (fun s => s.rep = .none ∧ elementRead16 s) { regs := [.si], ports := true } (fun _ => []) ∧
    ReachLaw .cmpsb (fun s => s.rep = .none ∧ elementRead8 s ∧ readable8 s s.sregs.es s.regs.di)
      { regs := [.si, .di], status := true } (fun _ => []) ∧
    ReachLaw .cmpsw (fun s => s.rep = .none ∧ elementRead16 s ∧ readable16 s s.sregs.es s.regs.di)
      { regs := [.si, .di], status := true } (fun _ => []) ∧
    ReachLaw .scasb (fun s => s.rep = .none ∧ readable8 s s.sregs.es s.regs.di)
      { regs := [.di], status := true } (fun _ => []) ∧
    ReachLaw .scasw (fun s => s.rep = .none ∧ readable16 s s.sregs.es s.regs.di)
      { regs := [.di], status := true } (fun _ => [])

/-- PUSH of a register, r/m16, immediate or segment register, PUSHF and a near CALL, when their operand is readable
and the stack word writable and they answer a next state, leave every general register but SP, every segment
register, every flag, the ports, the machinery and every byte of memory but the two at SS:SP-2 unchanged. POP of
a register, RET and RET n leave all but SP, and the register, unchanged, and store nothing; POP r/m16 stores to
its destination alone; LEAVE changes SP and BP alone. A far CALL changes SP, CS and the words at SS:SP-2 and
SS:SP-4, PUSHA SP and the eight words below SS:SP; RETF, RETF n and IRET change SP and CS, IRET the flags too,
POPF SP and the flags, POP of a segment register SP and that register, POPA the general registers, and they
store nothing. Cites spec/47_stack.md, spec/48_control_transfer.md sections 4 and 5, spec/45_flag_ops.md section
3. -/
def Obligations.FrameOfStackForms : Prop :=
  (∀ r, FrameLaw (.pushR16 r) canPush [.sp] false stackCells) ∧
    (∀ rm, FrameLaw (.pushRm16 rm) (fun s => canRead16 s rm ∧ canPush s) [.sp] false stackCells ∧
      FrameLaw (.callRm16 rm) (fun s => canRead16 s rm ∧ canPush s) [.sp] false stackCells ∧
      FrameLaw (.popRm16 rm) (fun s => canPop s 0 ∧ canWrite16 s rm) (.sp :: destRegs16 rm) false (stored16 · rm)) ∧
    (∀ imm, FrameLaw (.pushImm16 imm) canPush [.sp] false stackCells ∧
      FrameLaw (.callRel16 imm) canPush [.sp] false stackCells ∧
      FrameLaw (.retImm16 imm) (canPop · 0) [.sp] false (fun _ => [])) ∧
    (∀ imm, FrameLaw (.pushImm8s imm) canPush [.sp] false stackCells) ∧
    FrameLaw .pushEs canPush [.sp] false stackCells ∧ FrameLaw .pushCs canPush [.sp] false stackCells ∧
    FrameLaw .pushSs canPush [.sp] false stackCells ∧ FrameLaw .pushDs canPush [.sp] false stackCells ∧
    FrameLaw .pushf canPush [.sp] false stackCells ∧
    (∀ r, FrameLaw (.popR16 r) (canPop · 0) [.sp, r] false (fun _ => [])) ∧
    FrameLaw .ret (canPop · 0) [.sp] false (fun _ => []) ∧
    FrameLaw .leave (fun s => readable16 s s.sregs.ss s.regs.bp) [.sp, .bp] false (fun _ => []) ∧
    (∀ off sel, ReachLaw (.callFarDirect off sel) (fun s => s.bus.isExecutable sel = true ∧ canPushTwo s)
      { regs := [.sp], sregs := [.cs] } twoStackCells) ∧
    (∀ m, ReachLaw (.callFarMem m)
      (fun s => pairReadable s m ∧ s.bus.isExecutable (pairHigh s m) = true ∧ canPushTwo s)
      { regs := [.sp], sregs := [.cs] } twoStackCells) ∧
    ReachLaw .retf canReturnFar { regs := [.sp], sregs := [.cs] } (fun _ => []) ∧
    (∀ n, ReachLaw (.retfImm16 n) canReturnFar { regs := [.sp], sregs := [.cs] } (fun _ => [])) ∧
    ReachLaw .iret (fun s => canReturnFar s ∧ canPop s 4)
      { regs := [.sp], sregs := [.cs], status := true, control := true } (fun _ => []) ∧
    ReachLaw .popf (canPop · 0) { regs := [.sp], status := true, control := true } (fun _ => []) ∧
    ReachLaw .pusha (fun s => ∀ off, writable8 s s.sregs.ss off) { regs := [.sp] }
      (fun s => (List.range 8).flatMap fun k => wordCells s s.sregs.ss (s.regs.sp - BitVec.ofNat 16 (2 * (k + 1)))) ∧
    ReachLaw .popa (fun s => ∀ off, readable8 s s.sregs.ss off)
      { regs := [.ax, .cx, .dx, .bx, .sp, .bp, .si, .di] } (fun _ => []) ∧
    ReachLaw .popEs (fun s => canPop s 0 ∧ s.hooks.segLoadFault .es (stacked s 0) = none)
      { regs := [.sp], sregs := [.es] } (fun _ => []) ∧
    ReachLaw .popSs (fun s => canPop s 0 ∧ s.hooks.segLoadFault .ss (stacked s 0) = none)
      { regs := [.sp], sregs := [.ss] } (fun _ => []) ∧
    ReachLaw .popDs (fun s => canPop s 0 ∧ s.hooks.segLoadFault .ds (stacked s 0) = none)
      { regs := [.sp], sregs := [.ds] } (fun _ => [])
end

