-- ==== Sys2Proof/Laws/State.lean ====
section
/-! SUPPORT. What each update of State does to each field: one lemma per field per update, true by rfl. -/

namespace Sys2Proof.Machine

/-! ### `State.setReg16` -/

@[simp] theorem State.setReg16_regs (s : State) (r : Reg16) (v : Word) : (s.setReg16 r v).regs = s.regs.set16 r v := rfl

@[simp] theorem State.setReg16_sregs (s : State) (r : Reg16) (v : Word) : (s.setReg16 r v).sregs = s.sregs := rfl

@[simp] theorem State.setReg16_ip (s : State) (r : Reg16) (v : Word) : (s.setReg16 r v).ip = s.ip := rfl

@[simp] theorem State.setReg16_ipStart (s : State) (r : Reg16) (v : Word) : (s.setReg16 r v).ipStart = s.ipStart := rfl

@[simp] theorem State.setReg16_fe (s : State) (r : Reg16) (v : Word) : (s.setReg16 r v).fe = s.fe := rfl

@[simp] theorem State.setReg16_doc (s : State) (r : Reg16) (v : Word) : (s.setReg16 r v).doc = s.doc := rfl

@[simp] theorem State.setReg16_segOverride (s : State) (r : Reg16) (v : Word) : (s.setReg16 r v).segOverride = s.segOverride := rfl

@[simp] theorem State.setReg16_rep (s : State) (r : Reg16) (v : Word) : (s.setReg16 r v).rep = s.rep := rfl

@[simp] theorem State.setReg16_lock (s : State) (r : Reg16) (v : Word) : (s.setReg16 r v).lock = s.lock := rfl

@[simp] theorem State.setReg16_pending (s : State) (r : Reg16) (v : Word) : (s.setReg16 r v).pending = s.pending := rfl

@[simp] theorem State.setReg16_halted (s : State) (r : Reg16) (v : Word) : (s.setReg16 r v).halted = s.halted := rfl

@[simp] theorem State.setReg16_budget (s : State) (r : Reg16) (v : Word) : (s.setReg16 r v).budget = s.budget := rfl

@[simp] theorem State.setReg16_abortRequested (s : State) (r : Reg16) (v : Word) : (s.setReg16 r v).abortRequested = s.abortRequested := rfl

@[simp] theorem State.setReg16_fatal (s : State) (r : Reg16) (v : Word) : (s.setReg16 r v).fatal = s.fatal := rfl

@[simp] theorem State.setReg16_params (s : State) (r : Reg16) (v : Word) : (s.setReg16 r v).params = s.params := rfl

@[simp] theorem State.setReg16_launch (s : State) (r : Reg16) (v : Word) : (s.setReg16 r v).launch = s.launch := rfl

@[simp] theorem State.setReg16_hooks (s : State) (r : Reg16) (v : Word) : (s.setReg16 r v).hooks = s.hooks := rfl

@[simp] theorem State.setReg16_callbackAborts (s : State) (r : Reg16) (v : Word) : (s.setReg16 r v).callbackAborts = s.callbackAborts := rfl

@[simp] theorem State.setReg16_bus (s : State) (r : Reg16) (v : Word) : (s.setReg16 r v).bus = s.bus := rfl

@[simp] theorem State.setReg16_mem (s : State) (r : Reg16) (v : Word) : (s.setReg16 r v).mem = s.mem := rfl

@[simp] theorem State.setReg16_ports (s : State) (r : Reg16) (v : Word) : (s.setReg16 r v).ports = s.ports := rfl

/-! ### `State.setReg8` -/

@[simp] theorem State.setReg8_regs (s : State) (r : Reg8) (v : Byte) : (s.setReg8 r v).regs = s.regs.set8 r v := rfl

@[simp] theorem State.setReg8_sregs (s : State) (r : Reg8) (v : Byte) : (s.setReg8 r v).sregs = s.sregs := rfl

@[simp] theorem State.setReg8_ip (s : State) (r : Reg8) (v : Byte) : (s.setReg8 r v).ip = s.ip := rfl

@[simp] theorem State.setReg8_ipStart (s : State) (r : Reg8) (v : Byte) : (s.setReg8 r v).ipStart = s.ipStart := rfl

@[simp] theorem State.setReg8_fe (s : State) (r : Reg8) (v : Byte) : (s.setReg8 r v).fe = s.fe := rfl

@[simp] theorem State.setReg8_doc (s : State) (r : Reg8) (v : Byte) : (s.setReg8 r v).doc = s.doc := rfl

@[simp] theorem State.setReg8_segOverride (s : State) (r : Reg8) (v : Byte) : (s.setReg8 r v).segOverride = s.segOverride := rfl

@[simp] theorem State.setReg8_rep (s : State) (r : Reg8) (v : Byte) : (s.setReg8 r v).rep = s.rep := rfl

@[simp] theorem State.setReg8_lock (s : State) (r : Reg8) (v : Byte) : (s.setReg8 r v).lock = s.lock := rfl

@[simp] theorem State.setReg8_pending (s : State) (r : Reg8) (v : Byte) : (s.setReg8 r v).pending = s.pending := rfl

@[simp] theorem State.setReg8_halted (s : State) (r : Reg8) (v : Byte) : (s.setReg8 r v).halted = s.halted := rfl

@[simp] theorem State.setReg8_budget (s : State) (r : Reg8) (v : Byte) : (s.setReg8 r v).budget = s.budget := rfl

@[simp] theorem State.setReg8_abortRequested (s : State) (r : Reg8) (v : Byte) : (s.setReg8 r v).abortRequested = s.abortRequested := rfl

@[simp] theorem State.setReg8_fatal (s : State) (r : Reg8) (v : Byte) : (s.setReg8 r v).fatal = s.fatal := rfl

@[simp] theorem State.setReg8_params (s : State) (r : Reg8) (v : Byte) : (s.setReg8 r v).params = s.params := rfl

@[simp] theorem State.setReg8_launch (s : State) (r : Reg8) (v : Byte) : (s.setReg8 r v).launch = s.launch := rfl

@[simp] theorem State.setReg8_hooks (s : State) (r : Reg8) (v : Byte) : (s.setReg8 r v).hooks = s.hooks := rfl

@[simp] theorem State.setReg8_callbackAborts (s : State) (r : Reg8) (v : Byte) : (s.setReg8 r v).callbackAborts = s.callbackAborts := rfl

@[simp] theorem State.setReg8_bus (s : State) (r : Reg8) (v : Byte) : (s.setReg8 r v).bus = s.bus := rfl

@[simp] theorem State.setReg8_mem (s : State) (r : Reg8) (v : Byte) : (s.setReg8 r v).mem = s.mem := rfl

@[simp] theorem State.setReg8_ports (s : State) (r : Reg8) (v : Byte) : (s.setReg8 r v).ports = s.ports := rfl

/-! ### `State.setSP` -/

@[simp] theorem State.setSP_regs (s : State) (v : Word) : (s.setSP v).regs = { s.regs with sp := v } := rfl

@[simp] theorem State.setSP_sregs (s : State) (v : Word) : (s.setSP v).sregs = s.sregs := rfl

@[simp] theorem State.setSP_ip (s : State) (v : Word) : (s.setSP v).ip = s.ip := rfl

@[simp] theorem State.setSP_ipStart (s : State) (v : Word) : (s.setSP v).ipStart = s.ipStart := rfl

@[simp] theorem State.setSP_fe (s : State) (v : Word) : (s.setSP v).fe = s.fe := rfl

@[simp] theorem State.setSP_doc (s : State) (v : Word) : (s.setSP v).doc = s.doc := rfl

@[simp] theorem State.setSP_segOverride (s : State) (v : Word) : (s.setSP v).segOverride = s.segOverride := rfl

@[simp] theorem State.setSP_rep (s : State) (v : Word) : (s.setSP v).rep = s.rep := rfl

@[simp] theorem State.setSP_lock (s : State) (v : Word) : (s.setSP v).lock = s.lock := rfl

@[simp] theorem State.setSP_pending (s : State) (v : Word) : (s.setSP v).pending = s.pending := rfl

@[simp] theorem State.setSP_halted (s : State) (v : Word) : (s.setSP v).halted = s.halted := rfl

@[simp] theorem State.setSP_budget (s : State) (v : Word) : (s.setSP v).budget = s.budget := rfl

@[simp] theorem State.setSP_abortRequested (s : State) (v : Word) : (s.setSP v).abortRequested = s.abortRequested := rfl

@[simp] theorem State.setSP_fatal (s : State) (v : Word) : (s.setSP v).fatal = s.fatal := rfl

@[simp] theorem State.setSP_params (s : State) (v : Word) : (s.setSP v).params = s.params := rfl

@[simp] theorem State.setSP_launch (s : State) (v : Word) : (s.setSP v).launch = s.launch := rfl

@[simp] theorem State.setSP_hooks (s : State) (v : Word) : (s.setSP v).hooks = s.hooks := rfl

@[simp] theorem State.setSP_callbackAborts (s : State) (v : Word) : (s.setSP v).callbackAborts = s.callbackAborts := rfl

@[simp] theorem State.setSP_bus (s : State) (v : Word) : (s.setSP v).bus = s.bus := rfl

@[simp] theorem State.setSP_mem (s : State) (v : Word) : (s.setSP v).mem = s.mem := rfl

@[simp] theorem State.setSP_ports (s : State) (v : Word) : (s.setSP v).ports = s.ports := rfl

/-! ### `State.setIP` -/

@[simp] theorem State.setIP_regs (s : State) (v : Word) : (s.setIP v).regs = s.regs := rfl

@[simp] theorem State.setIP_sregs (s : State) (v : Word) : (s.setIP v).sregs = s.sregs := rfl

@[simp] theorem State.setIP_ip (s : State) (v : Word) : (s.setIP v).ip = v := rfl

@[simp] theorem State.setIP_ipStart (s : State) (v : Word) : (s.setIP v).ipStart = s.ipStart := rfl

@[simp] theorem State.setIP_fe (s : State) (v : Word) : (s.setIP v).fe = s.fe := rfl

@[simp] theorem State.setIP_doc (s : State) (v : Word) : (s.setIP v).doc = s.doc := rfl

@[simp] theorem State.setIP_segOverride (s : State) (v : Word) : (s.setIP v).segOverride = s.segOverride := rfl

@[simp] theorem State.setIP_rep (s : State) (v : Word) : (s.setIP v).rep = s.rep := rfl

@[simp] theorem State.setIP_lock (s : State) (v : Word) : (s.setIP v).lock = s.lock := rfl

@[simp] theorem State.setIP_pending (s : State) (v : Word) : (s.setIP v).pending = s.pending := rfl

@[simp] theorem State.setIP_halted (s : State) (v : Word) : (s.setIP v).halted = s.halted := rfl

@[simp] theorem State.setIP_budget (s : State) (v : Word) : (s.setIP v).budget = s.budget := rfl

@[simp] theorem State.setIP_abortRequested (s : State) (v : Word) : (s.setIP v).abortRequested = s.abortRequested := rfl

@[simp] theorem State.setIP_fatal (s : State) (v : Word) : (s.setIP v).fatal = s.fatal := rfl

@[simp] theorem State.setIP_params (s : State) (v : Word) : (s.setIP v).params = s.params := rfl

@[simp] theorem State.setIP_launch (s : State) (v : Word) : (s.setIP v).launch = s.launch := rfl

@[simp] theorem State.setIP_hooks (s : State) (v : Word) : (s.setIP v).hooks = s.hooks := rfl

@[simp] theorem State.setIP_callbackAborts (s : State) (v : Word) : (s.setIP v).callbackAborts = s.callbackAborts := rfl

@[simp] theorem State.setIP_bus (s : State) (v : Word) : (s.setIP v).bus = s.bus := rfl

@[simp] theorem State.setIP_mem (s : State) (v : Word) : (s.setIP v).mem = s.mem := rfl

@[simp] theorem State.setIP_ports (s : State) (v : Word) : (s.setIP v).ports = s.ports := rfl

/-! ### `State.setFlags` -/

@[simp] theorem State.setFlags_regs (s : State) (fe : FlagEngine) : (s.setFlags fe).regs = s.regs := rfl

@[simp] theorem State.setFlags_sregs (s : State) (fe : FlagEngine) : (s.setFlags fe).sregs = s.sregs := rfl

@[simp] theorem State.setFlags_ip (s : State) (fe : FlagEngine) : (s.setFlags fe).ip = s.ip := rfl

@[simp] theorem State.setFlags_ipStart (s : State) (fe : FlagEngine) : (s.setFlags fe).ipStart = s.ipStart := rfl

@[simp] theorem State.setFlags_fe (s : State) (fe : FlagEngine) : (s.setFlags fe).fe = fe := rfl

@[simp] theorem State.setFlags_doc (s : State) (fe : FlagEngine) : (s.setFlags fe).doc = s.doc := rfl

@[simp] theorem State.setFlags_segOverride (s : State) (fe : FlagEngine) : (s.setFlags fe).segOverride = s.segOverride := rfl

@[simp] theorem State.setFlags_rep (s : State) (fe : FlagEngine) : (s.setFlags fe).rep = s.rep := rfl

@[simp] theorem State.setFlags_lock (s : State) (fe : FlagEngine) : (s.setFlags fe).lock = s.lock := rfl

@[simp] theorem State.setFlags_pending (s : State) (fe : FlagEngine) : (s.setFlags fe).pending = s.pending := rfl

@[simp] theorem State.setFlags_halted (s : State) (fe : FlagEngine) : (s.setFlags fe).halted = s.halted := rfl

@[simp] theorem State.setFlags_budget (s : State) (fe : FlagEngine) : (s.setFlags fe).budget = s.budget := rfl

@[simp] theorem State.setFlags_abortRequested (s : State) (fe : FlagEngine) : (s.setFlags fe).abortRequested = s.abortRequested := rfl

@[simp] theorem State.setFlags_fatal (s : State) (fe : FlagEngine) : (s.setFlags fe).fatal = s.fatal := rfl

@[simp] theorem State.setFlags_params (s : State) (fe : FlagEngine) : (s.setFlags fe).params = s.params := rfl

@[simp] theorem State.setFlags_launch (s : State) (fe : FlagEngine) : (s.setFlags fe).launch = s.launch := rfl

@[simp] theorem State.setFlags_hooks (s : State) (fe : FlagEngine) : (s.setFlags fe).hooks = s.hooks := rfl

@[simp] theorem State.setFlags_callbackAborts (s : State) (fe : FlagEngine) : (s.setFlags fe).callbackAborts = s.callbackAborts := rfl

@[simp] theorem State.setFlags_bus (s : State) (fe : FlagEngine) : (s.setFlags fe).bus = s.bus := rfl

@[simp] theorem State.setFlags_mem (s : State) (fe : FlagEngine) : (s.setFlags fe).mem = s.mem := rfl

@[simp] theorem State.setFlags_ports (s : State) (fe : FlagEngine) : (s.setFlags fe).ports = s.ports := rfl

/-! ### `State.putWord` -/

@[simp] theorem State.putWord_regs (s : State) (seg off v : Word) : (s.putWord seg off v).regs = s.regs := rfl

@[simp] theorem State.putWord_sregs (s : State) (seg off v : Word) : (s.putWord seg off v).sregs = s.sregs := rfl

@[simp] theorem State.putWord_ip (s : State) (seg off v : Word) : (s.putWord seg off v).ip = s.ip := rfl

@[simp] theorem State.putWord_ipStart (s : State) (seg off v : Word) : (s.putWord seg off v).ipStart = s.ipStart := rfl

@[simp] theorem State.putWord_fe (s : State) (seg off v : Word) : (s.putWord seg off v).fe = s.fe := rfl

@[simp] theorem State.putWord_doc (s : State) (seg off v : Word) : (s.putWord seg off v).doc = s.doc := rfl

@[simp] theorem State.putWord_segOverride (s : State) (seg off v : Word) : (s.putWord seg off v).segOverride = s.segOverride := rfl

@[simp] theorem State.putWord_rep (s : State) (seg off v : Word) : (s.putWord seg off v).rep = s.rep := rfl

@[simp] theorem State.putWord_lock (s : State) (seg off v : Word) : (s.putWord seg off v).lock = s.lock := rfl

@[simp] theorem State.putWord_pending (s : State) (seg off v : Word) : (s.putWord seg off v).pending = s.pending := rfl

@[simp] theorem State.putWord_halted (s : State) (seg off v : Word) : (s.putWord seg off v).halted = s.halted := rfl

@[simp] theorem State.putWord_budget (s : State) (seg off v : Word) : (s.putWord seg off v).budget = s.budget := rfl

@[simp] theorem State.putWord_abortRequested (s : State) (seg off v : Word) : (s.putWord seg off v).abortRequested = s.abortRequested := rfl

@[simp] theorem State.putWord_fatal (s : State) (seg off v : Word) : (s.putWord seg off v).fatal = s.fatal := rfl

@[simp] theorem State.putWord_params (s : State) (seg off v : Word) : (s.putWord seg off v).params = s.params := rfl

@[simp] theorem State.putWord_launch (s : State) (seg off v : Word) : (s.putWord seg off v).launch = s.launch := rfl

@[simp] theorem State.putWord_hooks (s : State) (seg off v : Word) : (s.putWord seg off v).hooks = s.hooks := rfl

@[simp] theorem State.putWord_callbackAborts (s : State) (seg off v : Word) : (s.putWord seg off v).callbackAborts = s.callbackAborts := rfl

@[simp] theorem State.putWord_bus (s : State) (seg off v : Word) : (s.putWord seg off v).bus = s.bus := rfl

@[simp] theorem State.putWord_mem (s : State) (seg off v : Word) : (s.putWord seg off v).mem = (s.mem.write (busAddr s.bus.map seg off) (lo8 v)).write (busAddr s.bus.map seg (off + 1)) (hi8 v) := rfl

@[simp] theorem State.putWord_ports (s : State) (seg off v : Word) : (s.putWord seg off v).ports = s.ports := rfl

/-! ### `State.putByte` -/

@[simp] theorem State.putByte_regs (s : State) (seg off : Word) (v : Byte) : (s.putByte seg off v).regs = s.regs := rfl

@[simp] theorem State.putByte_sregs (s : State) (seg off : Word) (v : Byte) : (s.putByte seg off v).sregs = s.sregs := rfl

@[simp] theorem State.putByte_ip (s : State) (seg off : Word) (v : Byte) : (s.putByte seg off v).ip = s.ip := rfl

@[simp] theorem State.putByte_ipStart (s : State) (seg off : Word) (v : Byte) : (s.putByte seg off v).ipStart = s.ipStart := rfl

@[simp] theorem State.putByte_fe (s : State) (seg off : Word) (v : Byte) : (s.putByte seg off v).fe = s.fe := rfl

@[simp] theorem State.putByte_doc (s : State) (seg off : Word) (v : Byte) : (s.putByte seg off v).doc = s.doc := rfl

@[simp] theorem State.putByte_segOverride (s : State) (seg off : Word) (v : Byte) : (s.putByte seg off v).segOverride = s.segOverride := rfl

@[simp] theorem State.putByte_rep (s : State) (seg off : Word) (v : Byte) : (s.putByte seg off v).rep = s.rep := rfl

@[simp] theorem State.putByte_lock (s : State) (seg off : Word) (v : Byte) : (s.putByte seg off v).lock = s.lock := rfl

@[simp] theorem State.putByte_pending (s : State) (seg off : Word) (v : Byte) : (s.putByte seg off v).pending = s.pending := rfl

@[simp] theorem State.putByte_halted (s : State) (seg off : Word) (v : Byte) : (s.putByte seg off v).halted = s.halted := rfl

@[simp] theorem State.putByte_budget (s : State) (seg off : Word) (v : Byte) : (s.putByte seg off v).budget = s.budget := rfl

@[simp] theorem State.putByte_abortRequested (s : State) (seg off : Word) (v : Byte) : (s.putByte seg off v).abortRequested = s.abortRequested := rfl

@[simp] theorem State.putByte_fatal (s : State) (seg off : Word) (v : Byte) : (s.putByte seg off v).fatal = s.fatal := rfl

@[simp] theorem State.putByte_params (s : State) (seg off : Word) (v : Byte) : (s.putByte seg off v).params = s.params := rfl

@[simp] theorem State.putByte_launch (s : State) (seg off : Word) (v : Byte) : (s.putByte seg off v).launch = s.launch := rfl

@[simp] theorem State.putByte_hooks (s : State) (seg off : Word) (v : Byte) : (s.putByte seg off v).hooks = s.hooks := rfl

@[simp] theorem State.putByte_callbackAborts (s : State) (seg off : Word) (v : Byte) : (s.putByte seg off v).callbackAborts = s.callbackAborts := rfl

@[simp] theorem State.putByte_bus (s : State) (seg off : Word) (v : Byte) : (s.putByte seg off v).bus = s.bus := rfl

@[simp] theorem State.putByte_mem (s : State) (seg off : Word) (v : Byte) : (s.putByte seg off v).mem = s.mem.write (busAddr s.bus.map seg off) v := rfl

@[simp] theorem State.putByte_ports (s : State) (seg off : Word) (v : Byte) : (s.putByte seg off v).ports = s.ports := rfl

/-! ### `State.callbackAbort` -/

@[simp] theorem State.callbackAbort_regs (s : State) : s.callbackAbort.regs = s.regs := rfl

@[simp] theorem State.callbackAbort_sregs (s : State) : s.callbackAbort.sregs = s.sregs := rfl

@[simp] theorem State.callbackAbort_ip (s : State) : s.callbackAbort.ip = s.ip := rfl

@[simp] theorem State.callbackAbort_ipStart (s : State) : s.callbackAbort.ipStart = s.ipStart := rfl

@[simp] theorem State.callbackAbort_fe (s : State) : s.callbackAbort.fe = s.fe := rfl

@[simp] theorem State.callbackAbort_doc (s : State) : s.callbackAbort.doc = s.doc := rfl

@[simp] theorem State.callbackAbort_segOverride (s : State) : s.callbackAbort.segOverride = s.segOverride := rfl

@[simp] theorem State.callbackAbort_rep (s : State) : s.callbackAbort.rep = s.rep := rfl

@[simp] theorem State.callbackAbort_lock (s : State) : s.callbackAbort.lock = s.lock := rfl

@[simp] theorem State.callbackAbort_pending (s : State) : s.callbackAbort.pending = s.pending := rfl

@[simp] theorem State.callbackAbort_halted (s : State) : s.callbackAbort.halted = s.halted := rfl

@[simp] theorem State.callbackAbort_budget (s : State) : s.callbackAbort.budget = s.budget := rfl

@[simp] theorem State.callbackAbort_abortRequested (s : State) : s.callbackAbort.abortRequested = (s.abortRequested || s.callbackAborts.headD false) := rfl

@[simp] theorem State.callbackAbort_fatal (s : State) : s.callbackAbort.fatal = s.fatal := rfl

@[simp] theorem State.callbackAbort_params (s : State) : s.callbackAbort.params = s.params := rfl

@[simp] theorem State.callbackAbort_launch (s : State) : s.callbackAbort.launch = s.launch := rfl

@[simp] theorem State.callbackAbort_hooks (s : State) : s.callbackAbort.hooks = s.hooks := rfl

@[simp] theorem State.callbackAbort_callbackAborts (s : State) : s.callbackAbort.callbackAborts = s.callbackAborts.tail := rfl

@[simp] theorem State.callbackAbort_bus (s : State) : s.callbackAbort.bus = s.bus := rfl

@[simp] theorem State.callbackAbort_mem (s : State) : s.callbackAbort.mem = s.mem := rfl

@[simp] theorem State.callbackAbort_ports (s : State) : s.callbackAbort.ports = s.ports := rfl

/-- Without a scripted request a callback changes nothing. -/
theorem State.callbackAbort_of_nil (s : State) (h : s.callbackAborts = []) : s.callbackAbort = s := by
  cases s; cases h; simp [State.callbackAbort]

/-! ### `State.setSReg` -/

@[simp] theorem State.setSReg_regs (s : State) (r : SReg) (v : Word) : (s.setSReg r v).regs = s.regs := by
  cases r <;> rfl

@[simp] theorem State.setSReg_ip (s : State) (r : SReg) (v : Word) : (s.setSReg r v).ip = s.ip := by
  cases r <;> rfl

@[simp] theorem State.setSReg_ipStart (s : State) (r : SReg) (v : Word) : (s.setSReg r v).ipStart = s.ipStart := by
  cases r <;> rfl

@[simp] theorem State.setSReg_fe (s : State) (r : SReg) (v : Word) : (s.setSReg r v).fe = s.fe := by
  cases r <;> rfl

@[simp] theorem State.setSReg_doc (s : State) (r : SReg) (v : Word) : (s.setSReg r v).doc = s.doc := by
  cases r <;> rfl

@[simp] theorem State.setSReg_segOverride (s : State) (r : SReg) (v : Word) : (s.setSReg r v).segOverride = s.segOverride := by
  cases r <;> rfl

@[simp] theorem State.setSReg_rep (s : State) (r : SReg) (v : Word) : (s.setSReg r v).rep = s.rep := by
  cases r <;> rfl

@[simp] theorem State.setSReg_lock (s : State) (r : SReg) (v : Word) : (s.setSReg r v).lock = s.lock := by
  cases r <;> rfl

@[simp] theorem State.setSReg_pending (s : State) (r : SReg) (v : Word) : (s.setSReg r v).pending = s.pending := by
  cases r <;> rfl

@[simp] theorem State.setSReg_halted (s : State) (r : SReg) (v : Word) : (s.setSReg r v).halted = s.halted := by
  cases r <;> rfl

@[simp] theorem State.setSReg_budget (s : State) (r : SReg) (v : Word) : (s.setSReg r v).budget = s.budget := by
  cases r <;> rfl

@[simp] theorem State.setSReg_abortRequested (s : State) (r : SReg) (v : Word) : (s.setSReg r v).abortRequested = s.abortRequested := by
  cases r <;> rfl

@[simp] theorem State.setSReg_fatal (s : State) (r : SReg) (v : Word) : (s.setSReg r v).fatal = s.fatal := by
  cases r <;> rfl

@[simp] theorem State.setSReg_params (s : State) (r : SReg) (v : Word) : (s.setSReg r v).params = s.params := by
  cases r <;> rfl

@[simp] theorem State.setSReg_launch (s : State) (r : SReg) (v : Word) : (s.setSReg r v).launch = s.launch := by
  cases r <;> rfl

@[simp] theorem State.setSReg_hooks (s : State) (r : SReg) (v : Word) : (s.setSReg r v).hooks = s.hooks := by
  cases r <;> rfl

@[simp] theorem State.setSReg_callbackAborts (s : State) (r : SReg) (v : Word) : (s.setSReg r v).callbackAborts = s.callbackAborts := by
  cases r <;> rfl

@[simp] theorem State.setSReg_bus (s : State) (r : SReg) (v : Word) : (s.setSReg r v).bus = s.bus := by
  cases r <;> rfl

@[simp] theorem State.setSReg_mem (s : State) (r : SReg) (v : Word) : (s.setSReg r v).mem = s.mem := by
  cases r <;> rfl

@[simp] theorem State.setSReg_ports (s : State) (r : SReg) (v : Word) : (s.setSReg r v).ports = s.ports := by
  cases r <;> rfl

/-! ### `decodeModRM` -/

@[simp] theorem decodeModRM_regs (m : ModRM) (s : State) : (decodeModRM m s).regs = s.regs := by
  unfold decodeModRM; split <;> rfl

@[simp] theorem decodeModRM_sregs (m : ModRM) (s : State) : (decodeModRM m s).sregs = s.sregs := by
  unfold decodeModRM; split <;> rfl

@[simp] theorem decodeModRM_ip (m : ModRM) (s : State) : (decodeModRM m s).ip = s.ip := by
  unfold decodeModRM; split <;> rfl

@[simp] theorem decodeModRM_ipStart (m : ModRM) (s : State) : (decodeModRM m s).ipStart = s.ipStart := by
  unfold decodeModRM; split <;> rfl

@[simp] theorem decodeModRM_fe (m : ModRM) (s : State) : (decodeModRM m s).fe = s.fe := by
  unfold decodeModRM; split <;> rfl

@[simp] theorem decodeModRM_segOverride (m : ModRM) (s : State) : (decodeModRM m s).segOverride = s.segOverride := by
  unfold decodeModRM; split <;> rfl

@[simp] theorem decodeModRM_rep (m : ModRM) (s : State) : (decodeModRM m s).rep = s.rep := by
  unfold decodeModRM; split <;> rfl

@[simp] theorem decodeModRM_lock (m : ModRM) (s : State) : (decodeModRM m s).lock = s.lock := by
  unfold decodeModRM; split <;> rfl

@[simp] theorem decodeModRM_pending (m : ModRM) (s : State) : (decodeModRM m s).pending = s.pending := by
  unfold decodeModRM; split <;> rfl

@[simp] theorem decodeModRM_halted (m : ModRM) (s : State) : (decodeModRM m s).halted = s.halted := by
  unfold decodeModRM; split <;> rfl

@[simp] theorem decodeModRM_budget (m : ModRM) (s : State) : (decodeModRM m s).budget = s.budget := by
  unfold decodeModRM; split <;> rfl

@[simp] theorem decodeModRM_abortRequested (m : ModRM) (s : State) : (decodeModRM m s).abortRequested = s.abortRequested := by
  unfold decodeModRM; split <;> rfl

@[simp] theorem decodeModRM_fatal (m : ModRM) (s : State) : (decodeModRM m s).fatal = s.fatal := by
  unfold decodeModRM; split <;> rfl

@[simp] theorem decodeModRM_params (m : ModRM) (s : State) : (decodeModRM m s).params = s.params := by
  unfold decodeModRM; split <;> rfl

@[simp] theorem decodeModRM_launch (m : ModRM) (s : State) : (decodeModRM m s).launch = s.launch := by
  unfold decodeModRM; split <;> rfl

@[simp] theorem decodeModRM_hooks (m : ModRM) (s : State) : (decodeModRM m s).hooks = s.hooks := by
  unfold decodeModRM; split <;> rfl

@[simp] theorem decodeModRM_callbackAborts (m : ModRM) (s : State) : (decodeModRM m s).callbackAborts = s.callbackAborts := by
  unfold decodeModRM; split <;> rfl

@[simp] theorem decodeModRM_bus (m : ModRM) (s : State) : (decodeModRM m s).bus = s.bus := by
  unfold decodeModRM; split <;> rfl

@[simp] theorem decodeModRM_mem (m : ModRM) (s : State) : (decodeModRM m s).mem = s.mem := by
  unfold decodeModRM; split <;> rfl

@[simp] theorem decodeModRM_ports (m : ModRM) (s : State) : (decodeModRM m s).ports = s.ports := by
  unfold decodeModRM; split <;> rfl

/-! ### Reads after writes of registers -/

@[simp] theorem Regs.get16_set16 (g : Regs) (r : Reg16) (v : Word) : (g.set16 r v).get16 r = v := by
  cases r <;> rfl

theorem Regs.get16_set16_of_ne (g : Regs) {r q : Reg16} (v : Word) (h : q ≠ r) :
    (g.set16 r v).get16 q = g.get16 q := by
  cases r <;> cases q <;> first | rfl | exact absurd rfl h

@[simp] theorem State.reg16_setReg16 (s : State) (r : Reg16) (v : Word) : (s.setReg16 r v).reg16 r = v :=
  Regs.get16_set16 s.regs r v

theorem State.reg16_setReg16_of_ne (s : State) {r q : Reg16} (v : Word) (h : q ≠ r) :
    (s.setReg16 r v).reg16 q = s.reg16 q :=
  Regs.get16_set16_of_ne s.regs v h

theorem getLsbD_word16 (h l : Byte) (i : Nat) :
    (word16 h l).getLsbD i = if i < 8 then l.getLsbD i else h.getLsbD (i - 8) :=
  BitVec.getLsbD_append

@[simp] theorem lo8_word16 (h l : Byte) : lo8 (word16 h l) = l := by
  apply BitVec.eq_of_getLsbD_eq
  intro i hi
  simp [lo8, getLsbD_word16, hi]

@[simp] theorem hi8_word16 (h l : Byte) : hi8 (word16 h l) = h := by
  apply BitVec.eq_of_getLsbD_eq
  intro i hi
  simp [hi8, getLsbD_word16, hi]

@[simp] theorem word16_hi8_lo8 (v : Word) : word16 (hi8 v) (lo8 v) = v := by
  apply BitVec.eq_of_getLsbD_eq
  intro i hi
  by_cases h : i < 8
  · simp [lo8, getLsbD_word16, h]
  · simp [hi8, getLsbD_word16, h, show 8 + (i - 8) = i by omega, show i - 8 < 8 by omega]

@[simp] theorem Regs.get8_set8 (g : Regs) (r : Reg8) (v : Byte) : (g.set8 r v).get8 r = v := by
  cases r <;> simp [Regs.get8, Regs.set8]

theorem Regs.get8_set8_of_ne (g : Regs) {r q : Reg8} (v : Byte) (h : q ≠ r) :
    (g.set8 r v).get8 q = g.get8 q := by
  cases r <;> cases q <;> first | exact absurd rfl h | simp [Regs.get8, Regs.set8]

@[simp] theorem State.sreg_setSReg (s : State) (r : SReg) (v : Word) : (s.setSReg r v).sreg r = v := by
  cases r <;> rfl

theorem State.sreg_setSReg_of_ne (s : State) {r q : SReg} (v : Word) (h : q ≠ r) :
    (s.setSReg r v).sreg q = s.sreg q := by
  cases r <;> cases q <;> first | rfl | exact absurd rfl h

/-! ### Numbers of registers -/

@[simp] theorem Reg8.ofNum_num (r : Reg8) : Reg8.ofNum r.num = r := by
  cases r <;> rfl

@[simp] theorem Reg16.ofNum_num (r : Reg16) : Reg16.ofNum r.num = r := by
  cases r <;> rfl

@[simp] theorem EABase.ofNum_num (b : EABase) : EABase.ofNum b.num = b := by
  cases b <;> rfl

end Sys2Proof.Machine
end

