-- ==== Sys2Proof/Laws/Encode.lean ====
section
/-! SUPPORT. The ModRM byte and its displacement read back: what the decoder's round trip rests on. -/

namespace Sys2Proof

@[simp] theorem modOf_modrmByte (md : BitVec 2) (g n : BitVec 3) : modOf (modrmByte md g n) = md := by
  revert md g n; decide

@[simp] theorem regOf_modrmByte (md : BitVec 2) (g n : BitVec 3) : regOf (modrmByte md g n) = g := by
  revert md g n; decide

@[simp] theorem rmOf_modrmByte (md : BitVec 2) (g n : BitVec 3) : rmOf (modrmByte md g n) = n := by
  revert md g n; decide

theorem modrmByte_fields (m : Byte) : modrmByte (modOf m) (regOf m) (rmOf m) = m := by
  revert m; decide

theorem EABase.num_eq_six {b : EABase} (h : b.num = 6) : b = .bp := by
  cases b <;> first | rfl | exact absurd h (by decide)

theorem EABase.num_ofNum (n : BitVec 3) : (EABase.ofNum n).num = n := by
  revert n; decide

theorem Reg8.num_ofNum (n : BitVec 3) : (Reg8.ofNum n).num = n := by
  revert n; decide

theorem Reg16.num_ofNum (n : BitVec 3) : (Reg16.ofNum n).num = n := by
  revert n; decide

/-- A ModRM operand is read back from its bytes. -/
theorem readModRM_modrmBytes (g : BitVec 3) (rm : Rm (BitVec 3)) (rest : List Byte) (h : rm.wf = true) :
    readModRM (modrmBytes g rm ++ rest) = some (g, rm, rest) := by
  rcases rm with n | (b | ⟨b, d⟩ | ⟨b, d⟩ | d)
  · simp [modrmBytes, readModRM, Rm.modField, Rm.rmField, Rm.dispBytes]
  · have hb : b.num ≠ 6 := fun e => by simp [Rm.wf, MemEA.wf, EABase.num_eq_six e] at h
    simp [modrmBytes, readModRM, Rm.modField, Rm.rmField, Rm.dispBytes]
    exact fun e => absurd e hb
  · simp [modrmBytes, readModRM, Rm.modField, Rm.rmField, Rm.dispBytes]
  · simp [modrmBytes, readModRM, Rm.modField, Rm.rmField, Rm.dispBytes]
  · simp [modrmBytes, readModRM, Rm.modField, Rm.rmField, Rm.dispBytes]

@[simp] theorem Rm.wf_nums8 (rm : Rm Reg8) : rm.nums8.wf = rm.wf := by
  cases rm <;> rfl

@[simp] theorem Rm.wf_nums16 (rm : Rm Reg16) : rm.nums16.wf = rm.wf := by
  cases rm <;> rfl

@[simp] theorem Rm.map_nums8 (rm : Rm Reg8) : rm.nums8.map Reg8.ofNum = rm := by
  cases rm <;> simp [Rm.nums8, Rm.map]

@[simp] theorem Rm.map_nums16 (rm : Rm Reg16) : rm.nums16.map Reg16.ofNum = rm := by
  cases rm <;> simp [Rm.nums16, Rm.map]

/-- A byte-operand ModRM instruction is decoded by what its reg field selects. -/
theorem finish_encRm8 (op : Byte) (g : BitVec 3) (rm : Rm Reg8) (rest : List Byte) (f : BitVec 3 → RmShape)
    (h : rm.wf = true) :
    (Shape.modrm f).finish op (modrmBytes g rm.nums8 ++ rest) = (f g).finish op g rm.nums8 rest := by
  simp [Shape.finish, readModRM_modrmBytes, h]

/-- A word-operand ModRM instruction is decoded by what its reg field selects. -/
theorem finish_encRm16 (op : Byte) (g : BitVec 3) (rm : Rm Reg16) (rest : List Byte) (f : BitVec 3 → RmShape)
    (h : rm.wf = true) :
    (Shape.modrm f).finish op (modrmBytes g rm.nums16 ++ rest) = (f g).finish op g rm.nums16 rest := by
  simp [Shape.finish, readModRM_modrmBytes, h]

/-- A memory-operand ModRM instruction is decoded by what its reg field selects. -/
theorem finish_encMem (op : Byte) (g : BitVec 3) (m : MemEA) (rest : List Byte) (f : BitVec 3 → RmShape)
    (h : m.wf = true) :
    (Shape.modrm f).finish op (modrmBytes g (.mem m) ++ rest) = (f g).finish op g (.mem m) rest := by
  simp [Shape.finish, readModRM_modrmBytes, Rm.wf, h]

end Sys2Proof
end

