-- ==== Sys2Proof/Laws/Flags.lean ====
section
/-! SUPPORT. The Deferred Flag Record and the flags: every primitive of the Flag Engine leaves them in agreement
(10_state R91, R92). -/

namespace Sys2Proof.Machine

/-! ### Records without derived flags -/

theorem FlagEngine.agrees_of_allExplicit {fe : FlagEngine} (h : fe.record.src = .allExplicit) : fe.recordAgrees := by
  unfold FlagEngine.recordAgrees
  rw [h]
  simp [FlagSrcs.allExplicit]

/-! ### The result the record holds -/

/-- The record's result is the truncated result of the operation. -/
theorem FlagRecord.result_eq {w : Nat} {r : BitVec w} {d : FlagRecord} (hw : Width.bits d.w = w)
    (hr : d.raw % 2 ^ w = r.toNat) : d.result = r.toNat := by
  unfold FlagRecord.result
  rw [hw, hr]
  simp

theorem widthTag_bits {w : Nat} (hw : w = 8 ∨ w = 16) : Width.bits (widthTag w) = w := by
  rcases hw with rfl | rfl <;> rfl

/-- What derived ZF, SF and PF say of a record whose result is `r`. -/
theorem FlagRecord.zsp_eq {w : Nat} {r : BitVec w} {d : FlagRecord} (hw : Width.bits d.w = w)
    (hr : d.raw % 2 ^ w = r.toNat) :
    d.zfOf = (r == 0) ∧ d.sfOf = r.msb ∧ d.pfOf = parity (r.setWidth 8) := by
  have h := FlagRecord.result_eq hw hr
  refine ⟨?_, ?_, ?_⟩
  · simp only [FlagRecord.zfOf, h]
    by_cases h0 : r = 0
    · simp [h0]
    · have : r.toNat ≠ 0 := fun e => h0 (BitVec.eq_of_toNat_eq (by simpa using e))
      simp only [beq_eq_false_iff_ne.mpr h0, beq_eq_false_iff_ne.mpr this]
  · simp [FlagRecord.sfOf, h, hw, BitVec.msb_eq_getLsbD_last, BitVec.getLsbD]
  · simp only [FlagRecord.pfOf, h]
    congr 1
    exact BitVec.eq_of_toNat_eq (by simp)

/-- The bit of a xor of unsigned values is the bit of the xor of the vectors. -/
theorem xor3_testBit {w : Nat} (a b r : BitVec w) (i : Nat) :
    (a.toNat ^^^ b.toNat ^^^ r.toNat).testBit i = (a ^^^ b ^^^ r).getLsbD i := by
  simp [BitVec.getLsbD]

theorem overflow_testBit {w : Nat} (x y z t : BitVec w) :
    ((x.toNat ^^^ y.toNat) &&& (z.toNat ^^^ t.toNat)).testBit (w - 1) = ((x ^^^ y) &&& (z ^^^ t)).msb := by
  simp [BitVec.msb_eq_getLsbD_last, BitVec.getLsbD]

/-! ### Additive arithmetic -/

theorem addWith_agrees {w : Nat} (hw : w = 8 ∨ w = 16) (a b : BitVec w) (cin : Bool) (fe : FlagEngine) :
    (addWith a b cin fe).2.recordAgrees := by
  have hb := widthTag_bits hw
  have ha := a.isLt
  have hb' := b.isLt
  have hc : cin.toNat ≤ 1 := by cases cin <;> decide
  have hr : ((a.toNat + b.toNat + cin.toNat : Nat) : Int) % 2 ^ w =
      (BitVec.ofNat w (a.toNat + b.toNat + cin.toNat)).toNat := by
    rw [BitVec.toNat_ofNat]; push_cast; rfl
  obtain ⟨hz, hs, hp⟩ := FlagRecord.zsp_eq (d := (addWith a b cin fe).2.record) hb hr
  have hres := FlagRecord.result_eq (d := (addWith a b cin fe).2.record) hb hr
  refine ⟨fun _ => ?_, fun _ => hp.symm, fun _ => ?_, fun _ => hz.symm, fun _ => hs.symm, fun _ => ?_⟩
  · simp only [addWith, FlagEngine.setZsp, FlagRecord.cfOf, hb]
    rw [decide_eq_decide]
    rcases hw with rfl | rfl <;> constructor <;> intro h <;> push_cast at * <;> omega
  · simp only [FlagRecord.afOf, hres]
    simp only [addWith, FlagEngine.setZsp, auxCarry]
    exact (xor3_testBit _ _ _ _).symm
  · simp only [FlagRecord.ofOf, hres]
    simp only [addWith, FlagEngine.setZsp, hb, addOverflow]
    rw [if_pos (by push_cast; omega)]
    exact (overflow_testBit _ _ _ _).symm

theorem subWith_agrees {w : Nat} (hw : w = 8 ∨ w = 16) (a b : BitVec w) (cin : Bool) (fe : FlagEngine) :
    (subWith a b cin fe).2.recordAgrees := by
  have hb := widthTag_bits hw
  have ha := a.isLt
  have hb' := b.isLt
  have hc : cin.toNat ≤ 1 := by cases cin <;> decide
  have hr : ((a.toNat : Int) - b.toNat - cin.toNat) % 2 ^ w =
      (BitVec.ofInt w ((a.toNat : Int) - b.toNat - cin.toNat)).toNat := by
    rw [BitVec.toNat_ofInt, Int.toNat_of_nonneg]
    · push_cast; rfl
    · exact Int.emod_nonneg _ (by positivity)
  obtain ⟨hz, hs, hp⟩ := FlagRecord.zsp_eq (d := (subWith a b cin fe).2.record) hb hr
  have hres := FlagRecord.result_eq (d := (subWith a b cin fe).2.record) hb hr
  refine ⟨fun _ => ?_, fun _ => hp.symm, fun _ => ?_, fun _ => hz.symm, fun _ => hs.symm, fun _ => ?_⟩
  · simp only [subWith, FlagEngine.setZsp, FlagRecord.cfOf, hb]
    rw [decide_eq_decide]
    rcases hw with rfl | rfl <;> constructor <;> intro h <;> push_cast at * <;> omega
  · simp only [FlagRecord.afOf, hres]
    simp only [subWith, FlagEngine.setZsp, auxCarry]
    exact (xor3_testBit _ _ _ _).symm
  · simp only [FlagRecord.ofOf, hres]
    simp only [subWith, FlagEngine.setZsp, hb, subOverflow]
    split
    · rename_i h
      have hb0 : b.toNat = 0 := by omega
      have hc0 : cin.toNat = 0 := by omega
      have hbz : b = 0 := BitVec.eq_of_toNat_eq (by simpa using hb0)
      have hra : BitVec.ofInt w ((a.toNat : Int) - b.toNat - cin.toNat) = a := by
        rw [hb0, hc0]; simp
      rw [hra]; simp
    · exact (overflow_testBit _ _ _ _).symm

/-- Keeping the old carry as explicit keeps the agreement. -/
theorem keepCarry_agrees {old fe : FlagEngine} (h : fe.recordAgrees) : (old.keepCarry fe).recordAgrees := by
  obtain ⟨-, hp, ha, hz, hs, ho⟩ := h
  exact ⟨fun e => by simp [FlagEngine.keepCarry] at e, hp, ha, hz, hs, ho⟩

theorem inc_agrees {w : Nat} (hw : w = 8 ∨ w = 16) (a : BitVec w) (fe : FlagEngine) : (inc a fe).2.recordAgrees :=
  keepCarry_agrees (addWith_agrees hw a 1 false fe)

theorem dec_agrees {w : Nat} (hw : w = 8 ∨ w = 16) (a : BitVec w) (fe : FlagEngine) : (dec a fe).2.recordAgrees :=
  keepCarry_agrees (subWith_agrees hw a 1 false fe)

theorem neg_agrees {w : Nat} (hw : w = 8 ∨ w = 16) (a : BitVec w) (fe : FlagEngine) : (neg a fe).2.recordAgrees :=
  subWith_agrees hw 0 a false fe

/-! ### Logic, multiplication -/

theorem logicFlags_agrees {w : Nat} (hw : w = 8 ∨ w = 16) (a b r : BitVec w) (fe : FlagEngine) :
    (logicFlags a b r fe).recordAgrees := by
  have hr : ((r.toNat : Nat) : Int) % 2 ^ w = r.toNat := by
    have := r.isLt
    rcases hw with rfl | rfl <;> omega
  obtain ⟨hz, hs, hp⟩ := FlagRecord.zsp_eq (d := (logicFlags a b r fe).record) (widthTag_bits hw) hr
  exact ⟨fun e => by simp [logicFlags] at e, fun _ => hp.symm, fun e => by simp [logicFlags] at e, fun _ => hz.symm,
    fun _ => hs.symm, fun e => by simp [logicFlags] at e⟩

theorem mulFlags_agrees {w : Nat} (hw : w = 8 ∨ w = 16) (a b lo : BitVec w) (raw : Int) (wide : Bool) (fe : FlagEngine)
    (hr : raw % 2 ^ w = lo.toNat) : (mulFlags a b lo raw wide fe).recordAgrees := by
  obtain ⟨hz, hs, hp⟩ := FlagRecord.zsp_eq (d := (mulFlags a b lo raw wide fe).record) (widthTag_bits hw) hr
  exact ⟨fun e => by simp [mulFlags] at e, fun _ => hp.symm, fun e => by simp [mulFlags] at e, fun _ => hz.symm,
    fun _ => hs.symm, fun e => by simp [mulFlags] at e⟩

theorem mul_agrees {w : Nat} (hw : w = 8 ∨ w = 16) (a b : BitVec w) (fe : FlagEngine) :
    (mul a b fe).2.2.recordAgrees :=
  mulFlags_agrees hw _ _ _ _ _ _ (by rw [BitVec.toNat_ofNat]; push_cast; rfl)

theorem imul_agrees {w : Nat} (hw : w = 8 ∨ w = 16) (a b : BitVec w) (fe : FlagEngine) :
    (imul a b fe).2.2.recordAgrees :=
  mulFlags_agrees hw _ _ _ _ _ _ (by
    rw [BitVec.toNat_ofInt, Int.toNat_of_nonneg (Int.emod_nonneg _ (by positivity))]; push_cast; rfl)

theorem aluApply_agrees {w : Nat} (hw : w = 8 ∨ w = 16) (op : AluOp) (a b : BitVec w) (fe : FlagEngine) :
    (op.apply a b fe).2.recordAgrees := by
  cases op
  · exact addWith_agrees hw _ _ _ _
  · exact logicFlags_agrees hw _ _ _ _
  · exact addWith_agrees hw _ _ _ _
  · exact subWith_agrees hw _ _ _ _
  · exact logicFlags_agrees hw _ _ _ _
  · exact subWith_agrees hw _ _ _ _
  · exact logicFlags_agrees hw _ _ _ _
  · exact subWith_agrees hw _ _ _ _

/-! ### Rotates, shifts, decimal adjust: every flag explicit -/

@[simp] theorem multiOverflow_formula {κ : Type} [DecidableEq κ] (k : κ) (v : Bool) : multiOverflow .formula k v = v := rfl

@[simp] theorem multiOverflow_nil {κ : Type} [DecidableEq κ] (k : κ) (v : Bool) : multiOverflow (.table []) k v = v := rfl

/-- A table answers by its first entry for the arguments. -/
theorem multiOverflow_cons {κ : Type} [DecidableEq κ] (e : κ × Bool) (l : List (κ × Bool)) (k : κ) (v : Bool) :
    multiOverflow (.table (e :: l)) k v = if e.1 = k then e.2 else multiOverflow (.table l) k v := by
  by_cases h : e.1 = k <;> simp [multiOverflow, List.find?, h]

theorem rotateFlags_record {w : Nat} (p : Params) (k : RotateKind) (a : BitVec w) (n e : Nat) (r : BitVec w) (cf : Bool)
    (fe : FlagEngine) :
    (rotateFlags p k a n e r cf fe).record = ⟨a.toNat, n, r.toNat, widthTag w, .allExplicit⟩ := by
  unfold rotateFlags
  dsimp only
  split
  · rfl
  · split <;> rfl

theorem shiftFlags_record {w : Nat} (p : Params) (k : ShiftKind) (n : Nat) (a r : BitVec w) (raw : Nat) (cf : Bool)
    (fe : FlagEngine) :
    (shiftFlags p k n a r raw cf fe).record = ⟨a.toNat, n, raw, widthTag w, .allExplicit⟩ := by
  unfold shiftFlags
  dsimp only
  split
  · rfl
  · split <;> rfl

theorem rotateFlags_src {w : Nat} (p : Params) (k : RotateKind) (a : BitVec w) (n e : Nat) (r : BitVec w) (cf : Bool)
    (fe : FlagEngine) : (rotateFlags p k a n e r cf fe).record.src = .allExplicit := by
  rw [rotateFlags_record]

theorem shiftFlags_src {w : Nat} (p : Params) (k : ShiftKind) (n : Nat) (a r : BitVec w) (raw : Nat) (cf : Bool)
    (fe : FlagEngine) : (shiftFlags p k n a r raw cf fe).record.src = .allExplicit := by
  rw [shiftFlags_record]

/-- A shift or rotate leaves the flags as they were or every flag explicit. -/
theorem shiftApply_src {w : Nat} (op : ShiftOp) (p : Params) (a : BitVec w) (n : Nat) (fe : FlagEngine) :
    (op.apply p a n fe).2 = fe ∨ (op.apply p a n fe).2.record.src = .allExplicit := by
  cases op <;> simp only [ShiftOp.apply, rol, ror, rcl, rcr, shl, shr, sar] <;> split <;>
    first
      | exact .inl rfl
      | exact .inr (rotateFlags_src _ _ _ _ _ _ _ _)
      | exact .inr (shiftFlags_src _ _ _ _ _ _ _ _)
      | (split <;> first | exact .inl rfl | exact .inr (rotateFlags_src _ _ _ _ _ _ _ _))

theorem shiftApply_agrees {w : Nat} (op : ShiftOp) (p : Params) (a : BitVec w) (n : Nat) {fe : FlagEngine}
    (h : fe.recordAgrees) : (op.apply p a n fe).2.recordAgrees := by
  rcases shiftApply_src op p a n fe with e | e
  · rw [e]; exact h
  · exact FlagEngine.agrees_of_allExplicit e

theorem divFlags_agrees {w : Nat} (n : Nat) (d q : BitVec w) (fe : FlagEngine) : (divFlags n d q fe).recordAgrees :=
  FlagEngine.agrees_of_allExplicit rfl

theorem aaa_agrees (al ah : Byte) (fe : FlagEngine) : (aaa al ah fe).2.2.recordAgrees := by
  apply FlagEngine.agrees_of_allExplicit
  unfold aaa
  split <;> rfl

theorem aas_agrees (al ah : Byte) (fe : FlagEngine) : (aas al ah fe).2.2.recordAgrees := by
  apply FlagEngine.agrees_of_allExplicit
  unfold aas
  split <;> rfl

theorem daa_agrees (al : Byte) (fe : FlagEngine) : (daa al fe).2.recordAgrees := FlagEngine.agrees_of_allExplicit rfl

theorem das_agrees (al : Byte) (fe : FlagEngine) : (das al fe).2.recordAgrees := FlagEngine.agrees_of_allExplicit rfl

theorem aad_agrees (al ah b : Byte) (fe : FlagEngine) : (aad al ah b fe).2.recordAgrees :=
  FlagEngine.agrees_of_allExplicit rfl

/-! ### Single flags and images -/

theorem setCarry_agrees {fe : FlagEngine} (v : Bool) (h : fe.recordAgrees) : (fe.setCarry v).recordAgrees := by
  obtain ⟨-, hp, ha, hz, hs, ho⟩ := h
  exact ⟨fun e => by simp [FlagEngine.setCarry] at e, hp, ha, hz, hs, ho⟩

theorem setFlags16_agrees (v : Word) (fe : FlagEngine) : (setFlags16 v fe).recordAgrees :=
  FlagEngine.agrees_of_allExplicit rfl

theorem setFlags8_agrees (v : Byte) (fe : FlagEngine) : (setFlags8 v fe).recordAgrees :=
  FlagEngine.agrees_of_allExplicit rfl

end Sys2Proof.Machine
end

