-- ==== Sys2Proof/Laws/Memory.lean ====
section
/-! SUPPORT. The laws of memory: a read after a write, the canonical form kept by every write, the bus address
injective in the offset, bytes and words through the bus. -/

namespace Sys2Proof.Machine

/-! ### Lists of cells -/

theorem findCell_putCell (l : List Host.Cell) (a b : Nat) (v : Byte) (hl : l.Pairwise (fun c d => c.1 < d.1)) :
    findCell (putCell l a v) b = if b = a then some v else findCell l b := by
  induction l with
  | nil => by_cases h : b = a <;> simp [putCell, findCell, h]
  | cons c t ih =>
    obtain ⟨k, x⟩ := c
    rw [List.pairwise_cons] at hl
    have iht := ih hl.2
    by_cases h1 : a < k
    · by_cases h : b = a <;> simp [putCell, findCell, h1, h]
    · by_cases h2 : a = k
      · subst h2
        by_cases h : b = a <;> simp [putCell, findCell, h]
      · by_cases h3 : b = k
        · subst h3
          simp [putCell, findCell, h1, h2, Ne.symm h2]
        · simp [putCell, findCell, h1, h2, h3, iht]

theorem findCell_none (l : List Host.Cell) (a : Nat) (h : ∀ c ∈ l, a < c.1) : findCell l a = none := by
  induction l with
  | nil => rfl
  | cons c t ih =>
    obtain ⟨k, x⟩ := c
    have hk : a < k := h (k, x) (by simp)
    simp [findCell, Nat.ne_of_lt hk, ih fun c hc => h c (by simp [hc])]

theorem findCell_dropCell (l : List Host.Cell) (a b : Nat) (hl : l.Pairwise (fun c d => c.1 < d.1)) :
    findCell (dropCell l a) b = if b = a then none else findCell l b := by
  induction l with
  | nil => simp [dropCell, findCell]
  | cons c t ih =>
    obtain ⟨k, x⟩ := c
    rw [List.pairwise_cons] at hl
    by_cases h1 : a = k
    · subst h1
      by_cases h : b = a
      · subst h; simp [dropCell, findCell_none t b hl.1]
      · simp [dropCell, findCell, h]
    · by_cases h3 : b = k
      · subst h3; simp [dropCell, findCell, h1, Ne.symm h1]
      · simp [dropCell, findCell, h1, h3, ih hl.2]

theorem mem_putCell {l : List Host.Cell} {a : Nat} {v : Byte} {c : Host.Cell} (h : c ∈ putCell l a v) :
    c = (a, v) ∨ c ∈ l := by
  induction l with
  | nil => exact .inl (List.mem_singleton.mp h)
  | cons d t ih =>
    obtain ⟨k, x⟩ := d
    simp only [putCell] at h
    split at h
    · simpa using h
    · split at h
      · simp only [List.mem_cons] at h ⊢; tauto
      · simp only [List.mem_cons] at h ⊢
        rcases h with h | h
        · exact .inr (.inl h)
        · rcases ih h with h | h
          · exact .inl h
          · exact .inr (.inr h)

theorem mem_dropCell {l : List Host.Cell} {a : Nat} {c : Host.Cell} (h : c ∈ dropCell l a) : c ∈ l := by
  induction l with
  | nil => exact h
  | cons d t ih =>
    obtain ⟨k, x⟩ := d
    simp only [dropCell] at h
    split at h
    · simp [h]
    · simp only [List.mem_cons] at h ⊢
      exact h.imp id ih

theorem putCell_sorted {l : List Host.Cell} (a : Nat) (v : Byte) (hl : l.Pairwise (fun c d => c.1 < d.1)) :
    (putCell l a v).Pairwise (fun c d => c.1 < d.1) := by
  induction l with
  | nil => simp [putCell]
  | cons d t ih =>
    obtain ⟨k, x⟩ := d
    have hl' := List.pairwise_cons.mp hl
    simp only [putCell]
    split
    · rename_i h
      refine List.pairwise_cons.mpr ⟨fun c hc => ?_, hl⟩
      rcases List.mem_cons.mp hc with rfl | hc
      · exact h
      · exact Nat.lt_trans h (hl'.1 c hc)
    · split
      · rename_i h
        exact List.pairwise_cons.mpr ⟨fun c hc => h ▸ hl'.1 c hc, hl'.2⟩
      · rename_i h1 h2
        refine List.pairwise_cons.mpr ⟨fun c hc => ?_, ih hl'.2⟩
        rcases mem_putCell hc with rfl | hc
        · exact Nat.lt_of_le_of_ne (Nat.le_of_not_lt h1) (Ne.symm h2)
        · exact hl'.1 c hc

theorem dropCell_sorted {l : List Host.Cell} (a : Nat) (hl : l.Pairwise (fun c d => c.1 < d.1)) :
    (dropCell l a).Pairwise (fun c d => c.1 < d.1) := by
  induction l with
  | nil => simp [dropCell]
  | cons d t ih =>
    obtain ⟨k, x⟩ := d
    have hl' := List.pairwise_cons.mp hl
    simp only [dropCell]
    split
    · exact hl'.2
    · exact List.pairwise_cons.mpr ⟨fun c hc => hl'.1 c (mem_dropCell hc), ih hl'.2⟩

/-! ### Memory -/

/-- Every write keeps the canonical form. -/
theorem Memory.write_wf {m : Memory} (a : Nat) (v : Byte) (h : m.wf) : (m.write a v).wf := by
  unfold Memory.write
  split
  · exact ⟨dropCell_sorted a h.1, fun c hc => h.2 c (mem_dropCell hc)⟩
  · rename_i hv
    refine ⟨putCell_sorted a v h.1, fun c hc => ?_⟩
    rcases mem_putCell hc with rfl | hc
    · exact hv
    · exact h.2 c hc

/-- A read after a write. -/
theorem Memory.read_write {m : Memory} (h : m.wf) (a b : Nat) (v : Byte) :
    (m.write a v).read b = if b = a then v else m.read b := by
  unfold Memory.write Memory.read
  split
  · rename_i hv
    rw [findCell_dropCell _ _ _ h.1]
    split
    · simp [hv]
    · rfl
  · rw [findCell_putCell _ _ _ _ h.1]
    split <;> simp

/-! ### The bus address -/

/-- Offsets of one selector have different bus addresses. -/
theorem busAddr_inj (m : BusMap) (seg : Word) {o p : Word} (h : busAddr m seg o = busAddr m seg p) : o = p := by
  have ho := o.isLt
  have hp := p.isLt
  apply BitVec.eq_of_toNat_eq
  cases m <;> simp only [busAddr] at h <;> omega

theorem busAddr_ne (m : BusMap) (seg : Word) {o p : Word} (h : o ≠ p) : busAddr m seg o ≠ busAddr m seg p :=
  fun e => h (busAddr_inj m seg e)

/-! ### Bytes through the bus -/

/-- A byte read after one byte is stored, at any two addresses. -/
theorem State.byteAt_putByte {s : State} (h : s.mem.wf) (seg off : Word) (v : Byte) (seg' off' : Word) :
    (s.putByte seg off v).byteAt seg' off' =
      if busAddr s.bus.map seg' off' = busAddr s.bus.map seg off then v else s.byteAt seg' off' :=
  Memory.read_write h _ _ _

theorem State.putByte_wf {s : State} (h : s.mem.wf) (seg off : Word) (v : Byte) : (s.putByte seg off v).mem.wf :=
  Memory.write_wf _ _ h

/-- The two offsets of a word differ. -/
theorem off_succ_ne (off : Word) : off + 1 ≠ off := by
  intro h
  have := congrArg BitVec.toNat h
  simp [BitVec.toNat_add] at this
  have := off.isLt
  omega

/-! ### Transactions -/

theorem memRead8_eq {s : State} {seg off : Word} (h : s.bus.refusal false seg off = none) :
    memRead8 seg off s = .ok (s.byteAt seg off) s := by
  simp [memRead8, h]

theorem memWrite8_eq {s : State} {seg off : Word} (v : Byte) (h : s.bus.refusal true seg off = none) :
    memWrite8 seg off v s = .ok () (s.putByte seg off v) := by
  simp [memWrite8, h, Res.done]

theorem memRead16_eq {s : State} {seg off : Word} (h : s.bus.refusal false seg off = none)
    (h' : s.bus.refusal false seg (off + 1) = none) : memRead16 seg off s = .ok (s.wordAt seg off) s := by
  simp only [memRead16, memRead8, h, h', Res.bind, State.wordAt]

/-- The state with one word stored, low byte first. -/
theorem memWrite16_eq {s : State} {seg off : Word} (v : Word) (h : s.bus.refusal true seg off = none)
    (h' : s.bus.refusal true seg (off + 1) = none) :
    memWrite16 seg off v s = .ok () (s.putWord seg off v) := by
  simp only [memWrite16, memWrite8, h, h', Res.bind, Res.done, State.putByte_bus, State.putWord]

theorem memWrite8_refused {s : State} {seg off : Word} (v : Byte) {f : CpuFault}
    (h : s.bus.refusal true seg off = some f) : memWrite8 seg off v s = .raise f s := by
  simp [memWrite8, h]

/-- A word write refused at its first byte has written nothing. -/
theorem memWrite16_refused {s : State} {seg off : Word} (v : Word) {f : CpuFault}
    (h : s.bus.refusal true seg off = some f) : memWrite16 seg off v s = .raise f s := by
  simp only [memWrite16, memWrite8_refused _ h, Res.bind]

/-- A word write refused at its second byte has written the first (20_memory R121; log 10). -/
theorem memWrite16_refused_second {s : State} {seg off : Word} (v : Word) {f : CpuFault}
    (h : s.bus.refusal true seg off = none) (h' : s.bus.refusal true seg (off + 1) = some f) :
    memWrite16 seg off v s = .raise f (s.putByte seg off (lo8 v)) := by
  simp only [memWrite16, memWrite8_eq _ h, Res.bind]
  exact memWrite8_refused _ h'

theorem memRead8_refused {s : State} {seg off : Word} {f : CpuFault} (h : s.bus.refusal false seg off = some f) :
    memRead8 seg off s = .raise f s := by
  simp [memRead8, h]

theorem memRead16_refused {s : State} {seg off : Word} {f : CpuFault} (h : s.bus.refusal false seg off = some f) :
    memRead16 seg off s = .raise f s := by
  simp only [memRead16, memRead8_refused h, Res.bind]

theorem memRead16_refused_second {s : State} {seg off : Word} {f : CpuFault}
    (h : s.bus.refusal false seg off = none) (h' : s.bus.refusal false seg (off + 1) = some f) :
    memRead16 seg off s = .raise f s := by
  simp only [memRead16, memRead8_eq h, memRead8_refused h', Res.bind]

end Sys2Proof.Machine
end

