-- ==== Sys2Proof/Laws/Ops.lean ====
section
/-! SUPPORT. What every shared operation can do, said once: a property of states that the elementary updates keep is
kept by the operation, whether it completes or raises a fault; and the results where nothing is refused. -/

namespace Sys2Proof.Machine

/-- The state an operation leaves, completed or abandoned, has the property. -/
def Res.All {α : Type} (P : State → Prop) : Res α → Prop
  | .ok _ s => P s
  | .raise _ s => P s

theorem Res.All.bind {α β : Type} {P : State → Prop} {r : Res α} {k : α → State → Res β} (h : r.All P)
    (hk : ∀ a s, P s → (k a s).All P) : (r.bind k).All P := by
  cases r with
  | ok a s => exact hk a s h
  | raise f s => exact h

@[simp] theorem Res.bind_ok {α β : Type} (a : α) (s : State) (k : α → State → Res β) : (Res.ok a s).bind k = k a s :=
  rfl

@[simp] theorem Res.bind_raise {α β : Type} (f : CpuFault) (s : State) (k : α → State → Res β) :
    (Res.raise f s : Res α).bind k = .raise f s :=
  rfl

@[simp] theorem Res.bind_done {β : Type} (s : State) (k : Unit → State → Res β) : (Res.done s).bind k = k () s :=
  rfl

@[simp] theorem Res.outcome_done (s : State) : (Res.done s).outcome = .next s := rfl

@[simp] theorem Res.outcome_ok (s : State) : (Res.ok () s).outcome = .next s := rfl

@[simp] theorem Res.outcome_raise (f : CpuFault) (s : State) : (Res.raise f s).outcome = .next (handleFault f s) := rfl

/-! ### Properties that the elementary updates keep -/

/-- A property of states kept by a write of memory, of a register, of IP and of a segment register, and by the use of
the port bus. Flags are left to the operation that writes them. -/
structure Stable (P : State → Prop) : Prop where
  put : ∀ s seg off v, P s → P (s.putByte seg off v)
  regs : ∀ (s : State) g, P s → P { s with regs := g }
  sregs : ∀ (s : State) g, P s → P { s with sregs := g }
  ip : ∀ (s : State) v, P s → P { s with ip := v }
  ports : ∀ (s : State) p, P s → P { s with ports := p }
  doc : ∀ (s : State) d, P s → P { s with doc := d }

section
variable {P : State → Prop}

theorem memRead8_all {s : State} (h : P s) (seg off : Word) : (memRead8 seg off s).All P := by
  unfold memRead8
  split <;> exact h

theorem memRead16_all {s : State} (h : P s) (seg off : Word) : (memRead16 seg off s).All P :=
  (memRead8_all h _ _).bind fun _ _ h => (memRead8_all h _ _).bind fun _ _ h => h

theorem memWrite8_all (hP : Stable P) {s : State} (h : P s) (seg off : Word) (v : Byte) :
    (memWrite8 seg off v s).All P := by
  unfold memWrite8
  split
  · exact h
  · exact hP.put _ _ _ _ h

theorem memWrite16_all (hP : Stable P) {s : State} (h : P s) (seg off v : Word) : (memWrite16 seg off v s).All P :=
  (memWrite8_all hP h _ _ _).bind fun _ _ h => memWrite8_all hP h _ _ _

theorem Stable.setReg16 (hP : Stable P) {s : State} (h : P s) (r : Reg16) (v : Word) : P (s.setReg16 r v) :=
  hP.regs s _ h

theorem Stable.setReg8 (hP : Stable P) {s : State} (h : P s) (r : Reg8) (v : Byte) : P (s.setReg8 r v) :=
  hP.regs s _ h

theorem Stable.setSReg (hP : Stable P) {s : State} (h : P s) (r : SReg) (v : Word) : P (s.setSReg r v) := by
  cases r <;> exact hP.sregs s _ h

theorem Stable.setIP (hP : Stable P) {s : State} (h : P s) (v : Word) : P (s.setIP v) := hP.ip s v h

theorem push16_all (hP : Stable P) {s : State} (h : P s) (v : Word) : (push16 v s).All P :=
  (memWrite16_all hP h _ _ _).bind fun _ _ h => hP.setReg16 h _ _

theorem pop16_all (hP : Stable P) {s : State} (h : P s) : (pop16 s).All P :=
  (memRead16_all h _ _).bind fun _ _ h => hP.setReg16 h _ _

theorem checkCS_all {s : State} (h : P s) (sel : Word) : (checkCS sel s).All P := by
  unfold checkCS
  split <;> exact h

theorem writeCS_all (hP : Stable P) {s : State} (h : P s) (sel : Word) : (writeCS sel s).All P :=
  (checkCS_all h _).bind fun _ _ h => hP.setSReg h _ _

theorem jumpFar_all (hP : Stable P) {s : State} (h : P s) (sel off : Word) : (jumpFar sel off s).All P :=
  (writeCS_all hP h _).bind fun _ _ h => hP.setIP h _

theorem writeSReg_all (hP : Stable P) {s : State} (h : P s) (r : SReg) (v : Word) : (writeSReg r v s).All P := by
  have hl : ∀ q, (writeSReg.loadData v s q).All P := fun q => by
    unfold writeSReg.loadData
    split
    · exact h
    · exact hP.setSReg h _ _
  cases r
  · exact hl _
  · exact writeCS_all hP h _
  · exact hl _
  · exact hl _

theorem portRead8_all (hP : Stable P) {s : State} (h : P s) (port : Word) : (portRead8 port s).All P :=
  hP.ports s _ h

theorem portRead16_all (hP : Stable P) {s : State} (h : P s) (port : Word) : (portRead16 port s).All P :=
  (portRead8_all hP h _).bind fun _ _ h => (portRead8_all hP h _).bind fun _ _ h => h

theorem portWrite8_all (hP : Stable P) {s : State} (h : P s) (port : Word) (v : Byte) : (portWrite8 port v s).All P :=
  hP.ports s _ h

theorem portWrite16_all (hP : Stable P) {s : State} (h : P s) (port v : Word) : (portWrite16 port v s).All P :=
  (portWrite8_all hP h _ _).bind fun _ _ h => portWrite8_all hP h _ _

theorem decodeModRM_all (hP : Stable P) {s : State} (h : P s) (m : ModRM) : P (decodeModRM m s) := by
  unfold decodeModRM
  split
  · exact h
  · exact hP.doc s _ h

theorem readEA8_all (hP : Stable P) {s : State} (h : P s) (m : ModRM) : (readEA8 m s).All P := by
  unfold readEA8
  dsimp only
  split
  · exact memRead8_all (decodeModRM_all hP h m) _ _
  · exact decodeModRM_all hP h m

theorem readEA16_all (hP : Stable P) {s : State} (h : P s) (m : ModRM) : (readEA16 m s).All P := by
  unfold readEA16
  dsimp only
  split
  · exact memRead16_all (decodeModRM_all hP h m) _ _
  · exact decodeModRM_all hP h m

theorem writeEA8_all (hP : Stable P) {s : State} (h : P s) (m : ModRM) (v : Byte) : (writeEA8 m v s).All P := by
  unfold writeEA8
  dsimp only
  split
  · exact memWrite8_all hP (decodeModRM_all hP h m) _ _ _
  · exact hP.setReg8 (decodeModRM_all hP h m) _ _

theorem writeEA16_all (hP : Stable P) {s : State} (h : P s) (m : ModRM) (v : Word) : (writeEA16 m v s).All P := by
  unfold writeEA16
  dsimp only
  split
  · exact memWrite16_all hP (decodeModRM_all hP h m) _ _ _
  · exact hP.setReg16 (decodeModRM_all hP h m) _ _

theorem readRegField8_all (hP : Stable P) {s : State} (h : P s) (m : ModRM) : (readRegField8 m s).All P :=
  decodeModRM_all hP h m

theorem readRegField16_all (hP : Stable P) {s : State} (h : P s) (m : ModRM) : (readRegField16 m s).All P :=
  decodeModRM_all hP h m

theorem writeRegField8_all (hP : Stable P) {s : State} (h : P s) (m : ModRM) (v : Byte) :
    (writeRegField8 m v s).All P :=
  hP.setReg8 (decodeModRM_all hP h m) _ _

theorem writeRegField16_all (hP : Stable P) {s : State} (h : P s) (m : ModRM) (v : Word) :
    (writeRegField16 m v s).All P :=
  hP.setReg16 (decodeModRM_all hP h m) _ _

theorem eaOffset_all (hP : Stable P) {s : State} (h : P s) (m : ModRM) : (eaOffset m s).All P := by
  unfold eaOffset
  dsimp only
  split <;> exact decodeModRM_all hP h m

theorem readEAWordAt_all (hP : Stable P) {s : State} (h : P s) (m : ModRM) (k : Word) : (readEAWordAt m k s).All P :=
  memRead16_all (decodeModRM_all hP h m) _ _

end

/-! ### The invariant -/

theorem State.Inv.setFlags {s : State} (h : s.Inv) {fe : FlagEngine} (hf : fe.recordAgrees) : (s.setFlags fe).Inv :=
  ⟨h.memory, hf⟩

/-- The invariant is kept by every elementary update that writes no flag. -/
theorem inv_stable : Stable State.Inv where
  put _ _ _ _ h := ⟨Memory.write_wf _ _ h.memory, h.record⟩
  regs _ _ h := ⟨h.memory, h.record⟩
  sregs _ _ h := ⟨h.memory, h.record⟩
  ip _ _ h := ⟨h.memory, h.record⟩
  ports _ _ h := ⟨h.memory, h.record⟩
  doc _ _ h := ⟨h.memory, h.record⟩

theorem HostWrite.apply_inv (w : HostWrite) {s : State} (h : s.Inv) : (w.apply s).Inv := by
  cases w with
  | reg r v => exact inv_stable.setReg16 h r v
  | sreg r v => exact inv_stable.setSReg h r v
  | ip v => exact inv_stable.setIP h v
  | flags v => exact h.setFlags (setFlags16_agrees _ _)
  | mem seg off v => exact inv_stable.put _ _ _ _ h
  | abort => exact ⟨h.memory, h.record⟩

theorem State.Inv.callbackAbort {s : State} (h : s.Inv) : s.callbackAbort.Inv := ⟨h.memory, h.record⟩

theorem applyWrites_inv (l : List HostWrite) {s : State} (h : s.Inv) : (applyWrites l s).Inv := by
  induction l generalizing s with
  | nil => exact h
  | cons w t ih => exact ih (w.apply_inv h)

theorem hostClaims_inv {s : State} (h : s.Inv) : (hostClaims s).2.Inv := by
  unfold hostClaims
  split
  · exact applyWrites_inv _ ⟨h.memory, h.record⟩
  · exact h
  · exact h

theorem softIntAllowed_inv {s : State} (h : s.Inv) : (softIntAllowed s).2.Inv := by
  unfold softIntAllowed
  split
  · exact applyWrites_inv _ ⟨h.memory, h.record⟩
  · exact h
  · exact h

theorem readVector_all {P : State → Prop} {s : State} (h : P s) (n : Byte) : (readVector n s).All P :=
  (memRead16_all h _ _).bind fun _ _ h => (memRead16_all h _ _).bind fun _ _ h => h

theorem enterHandler_inv {s : State} (h : s.Inv) (off sel : Word) : (enterHandler off sel s).All State.Inv :=
  (push16_all inv_stable h _).bind fun _ _ h =>
    (push16_all inv_stable h _).bind fun _ _ h =>
      (push16_all inv_stable h _).bind fun _ _ h => jumpFar_all inv_stable (h.setFlags (fe := enterFlags _ _) h.record) _ _

theorem dispatch_inv (n : Byte) (k : IntKind) (c : Option CpuFault) {s : State} (h : s.Inv) :
    (dispatch n k c s).Inv := by
  have hh := hostClaims_inv h
  unfold dispatch
  split
  · rename_i s1 e; rw [e] at hh; exact hh
  · rename_i s1 e
    rw [e] at hh
    have hv := readVector_all (P := State.Inv) hh n
    split
    · rename_i f s2 e2; rw [e2] at hv; exact ⟨hv.memory, hv.record⟩
    · rename_i off sel s2 e2
      rw [e2] at hv
      split
      · exact ⟨hv.memory, hv.record⟩
      · have he := enterHandler_inv hv off sel
        split
        · rename_i f s3 e3; rw [e3] at he; exact ⟨he.memory, he.record⟩
        · rename_i s3 e3; rw [e3] at he; exact he

theorem handleFault_inv (f : CpuFault) {s : State} (h : s.Inv) : (handleFault f s).Inv := by
  unfold handleFault
  apply dispatch_inv
  split
  · exact inv_stable.setIP h _
  · exact h

theorem softwareInterrupt_inv (n : Byte) {s : State} (h : s.Inv) : (softwareInterrupt n s).Inv := by
  have hh := softIntAllowed_inv h
  unfold softwareInterrupt
  split
  · rename_i s1 e; rw [e] at hh; exact hh
  · rename_i s1 e; rw [e] at hh; exact dispatch_inv _ _ _ hh

theorem interruptCheck_inv {s : State} (h : s.Inv) : (interruptCheck s).Inv := by
  unfold interruptCheck
  split
  · split
    · exact dispatch_inv _ _ _ ⟨h.memory, h.record⟩
    · exact h
  · exact h

theorem returnFromInterrupt_inv {s : State} (h : s.Inv) : (returnFromInterrupt s).All State.Inv :=
  (memRead16_all h _ _).bind fun _ _ h =>
    (memRead16_all h _ _).bind fun _ _ h =>
      (memRead16_all h _ _).bind fun _ _ h =>
        (checkCS_all h _).bind fun _ _ h =>
          (jumpFar_all inv_stable h _ _).bind fun _ _ h =>
            inv_stable.setReg16 (h.setFlags (setFlags16_agrees _ _)) _ _

/-- An instruction's outcome keeps the invariant when its operation does. -/
theorem Res.outcome_inv {r : Res Unit} (h : r.All State.Inv) {t : State} (e : r.outcome = .next t) : t.Inv := by
  cases r with
  | ok a s => cases e; exact h
  | raise f s => cases e; exact handleFault_inv f h

end Sys2Proof.Machine
end

