-- ==== Sys2Proof/Laws/Families.lean ====
section
/-! SUPPORT. The shared operations behind the meanings of each family keep the invariant, whether they complete or
raise a fault: one lemma per operation, over the lemmas of Laws/Ops. -/

set_option Elab.async false

namespace Sys2Proof.Machine

theorem aluCommit8_inv (op : AluOp) (a b : Byte) (dest : Byte → State → Res Unit)
    (hd : ∀ v s, State.Inv s → (dest v s).All State.Inv) {s : State} (h : s.Inv) :
    (aluCommit8 op a b dest s).All State.Inv := by
  unfold aluCommit8
  split
  rename_i r fe e
  have hf : fe.recordAgrees := by have := aluApply_agrees (.inl rfl) op a b s.fe; rw [e] at this; exact this
  split
  · exact (hd _ _ h).bind fun _ _ h => h.setFlags hf
  · exact h.setFlags hf

theorem aluCommit16_inv (op : AluOp) (a b : Word) (dest : Word → State → Res Unit)
    (hd : ∀ v s, State.Inv s → (dest v s).All State.Inv) {s : State} (h : s.Inv) :
    (aluCommit16 op a b dest s).All State.Inv := by
  unfold aluCommit16
  split
  rename_i r fe e
  have hf : fe.recordAgrees := by have := aluApply_agrees (.inr rfl) op a b s.fe; rw [e] at this; exact this
  split
  · exact (hd _ _ h).bind fun _ _ h => h.setFlags hf
  · exact h.setFlags hf

/-- A refused write-back leaves the flags as they were (46 R436, 60 R651). -/
theorem aluCommit8_refused {op : AluOp} {a b : Byte} {dest : Byte → State → Res Unit} {s t : State} {f : CpuFault}
    (hw : op.writes = true) (hd : dest (op.apply a b s.fe).1 s = .raise f t) : aluCommit8 op a b dest s = .raise f t := by
  simp [aluCommit8, hw, hd]

/-- A refused write-back leaves the flags as they were (46 R436, 60 R651). -/
theorem aluCommit16_refused {op : AluOp} {a b : Word} {dest : Word → State → Res Unit} {s t : State} {f : CpuFault}
    (hw : op.writes = true) (hd : dest (op.apply a b s.fe).1 s = .raise f t) :
    aluCommit16 op a b dest s = .raise f t := by
  simp [aluCommit16, hw, hd]

theorem aluRmR8_inv (op m) {s : State} (h : s.Inv) : (aluRmR8 op m s).All State.Inv :=
  (readEA8_all inv_stable h _).bind fun _ _ h => (readRegField8_all inv_stable h _).bind fun _ _ h =>
    aluCommit8_inv _ _ _ _ (fun _ _ h => writeEA8_all inv_stable h _ _) h

theorem aluRmR16_inv (op m) {s : State} (h : s.Inv) : (aluRmR16 op m s).All State.Inv :=
  (readEA16_all inv_stable h _).bind fun _ _ h => (readRegField16_all inv_stable h _).bind fun _ _ h =>
    aluCommit16_inv _ _ _ _ (fun _ _ h => writeEA16_all inv_stable h _ _) h

theorem aluRRm8_inv (op m) {s : State} (h : s.Inv) : (aluRRm8 op m s).All State.Inv :=
  (readEA8_all inv_stable h _).bind fun _ _ h => (readRegField8_all inv_stable h _).bind fun _ _ h =>
    aluCommit8_inv _ _ _ _ (fun _ _ h => writeRegField8_all inv_stable h _ _) h

theorem aluRRm16_inv (op m) {s : State} (h : s.Inv) : (aluRRm16 op m s).All State.Inv :=
  (readEA16_all inv_stable h _).bind fun _ _ h => (readRegField16_all inv_stable h _).bind fun _ _ h =>
    aluCommit16_inv _ _ _ _ (fun _ _ h => writeRegField16_all inv_stable h _ _) h

theorem aluAlImm_inv (op i) {s : State} (h : s.Inv) : (aluAlImm op i s).All State.Inv :=
  aluCommit8_inv _ _ _ (fun v s => .done (s.setReg8 .al v)) (fun _ s h => inv_stable.setReg8 (s := s) h _ _) h

theorem aluAxImm_inv (op i) {s : State} (h : s.Inv) : (aluAxImm op i s).All State.Inv :=
  aluCommit16_inv _ _ _ (fun v s => .done (s.setReg16 .ax v)) (fun _ s h => inv_stable.setReg16 (s := s) h _ _) h

theorem aluRmImm8_inv (op m i) {s : State} (h : s.Inv) : (aluRmImm8 op m i s).All State.Inv :=
  (readEA8_all inv_stable h _).bind fun _ _ h => aluCommit8_inv _ _ _ _ (fun _ _ h => writeEA8_all inv_stable h _ _) h

theorem aluRmImm16_inv (op m i) {s : State} (h : s.Inv) : (aluRmImm16 op m i s).All State.Inv :=
  (readEA16_all inv_stable h _).bind fun _ _ h => aluCommit16_inv _ _ _ _ (fun _ _ h =>
    writeEA16_all inv_stable h _ _) h

theorem unaryRm8_inv (f m) (hf : ∀ a (fe : FlagEngine), fe.recordAgrees → (f a fe).2.recordAgrees) {s : State} (h :
    s.Inv) : (unaryRm8 f m s).All State.Inv :=
  (readEA8_all inv_stable h _).bind fun a s h =>
    have he := hf a s.fe h.record
    (writeEA8_all inv_stable h _ _).bind fun _ _ h => h.setFlags he

theorem unaryRm16_inv (f m) (hf : ∀ a (fe : FlagEngine), fe.recordAgrees → (f a fe).2.recordAgrees) {s : State} (h
    : s.Inv) : (unaryRm16 f m s).All State.Inv :=
  (readEA16_all inv_stable h _).bind fun a s h =>
    have he := hf a s.fe h.record
    (writeEA16_all inv_stable h _ _).bind fun _ _ h => h.setFlags he

theorem unaryR16_inv (f r) (hf : ∀ a (fe : FlagEngine), fe.recordAgrees → (f a fe).2.recordAgrees) {s : State} (h :
    s.Inv) : (unaryR16 f r s).All State.Inv :=
  inv_stable.setReg16 (h.setFlags (hf _ s.fe h.record)) _ _

theorem testRmR8_inv (m) {s : State} (h : s.Inv) : (testRmR8 m s).All State.Inv :=
  (readEA8_all inv_stable h _).bind fun _ _ h => (readRegField8_all inv_stable h _).bind fun _ _ h =>
    h.setFlags (logicFlags_agrees (.inl rfl) _ _ _ _)

theorem testRmR16_inv (m) {s : State} (h : s.Inv) : (testRmR16 m s).All State.Inv :=
  (readEA16_all inv_stable h _).bind fun _ _ h => (readRegField16_all inv_stable h _).bind fun _ _ h =>
    h.setFlags (logicFlags_agrees (.inr rfl) _ _ _ _)

theorem testAlImm_inv (i) {s : State} (h : s.Inv) : (testAlImm i s).All State.Inv :=
  h.setFlags (logicFlags_agrees (.inl rfl) _ _ _ _)

theorem testAxImm_inv (i) {s : State} (h : s.Inv) : (testAxImm i s).All State.Inv :=
  h.setFlags (logicFlags_agrees (.inr rfl) _ _ _ _)

theorem testRmImm8_inv (m i) {s : State} (h : s.Inv) : (testRmImm8 m i s).All State.Inv :=
  (readEA8_all inv_stable h _).bind fun _ _ h => h.setFlags (logicFlags_agrees (.inl rfl) _ _ _ _)

theorem testRmImm16_inv (m i) {s : State} (h : s.Inv) : (testRmImm16 m i s).All State.Inv :=
  (readEA16_all inv_stable h _).bind fun _ _ h => h.setFlags (logicFlags_agrees (.inr rfl) _ _ _ _)

theorem mulAcc8_inv (f m) (hf : ∀ a b (fe : FlagEngine), (f a b fe).2.2.recordAgrees) {s : State} (h : s.Inv) :
    (mulAcc8 f m s).All State.Inv :=
  (readEA8_all inv_stable h _).bind fun _ s h => inv_stable.setReg16 (h.setFlags (hf _ _ s.fe)) _ _

theorem mulAcc16_inv (f m) (hf : ∀ a b (fe : FlagEngine), (f a b fe).2.2.recordAgrees) {s : State} (h : s.Inv) :
    (mulAcc16 f m s).All State.Inv :=
  (readEA16_all inv_stable h _).bind fun _ s h =>
    inv_stable.setReg16 (inv_stable.setReg16 (h.setFlags (hf _ _ s.fe)) _ _) _ _

theorem imulImm_inv (m i) {s : State} (h : s.Inv) : (imulImm m i s).All State.Inv :=
  (readEA16_all inv_stable h _).bind fun _ s h =>
    writeRegField16_all inv_stable (h.setFlags (imul_agrees (.inr rfl) _ _ s.fe)) _ _

theorem divAcc8_inv (f m) {s : State} (h : s.Inv) : (divAcc8 f m s).All State.Inv :=
  (readEA8_all inv_stable h _).bind fun _ s h => by
    split
    · exact h
    · exact inv_stable.setReg16 (h.setFlags (divFlags_agrees _ _ _ _)) _ _

theorem divAcc16_inv (f m) {s : State} (h : s.Inv) : (divAcc16 f m s).All State.Inv :=
  (readEA16_all inv_stable h _).bind fun _ s h => by
    split
    · exact h
    · exact inv_stable.setReg16 (inv_stable.setReg16 (h.setFlags (divFlags_agrees _ _ _ _)) _ _) _ _

theorem shiftRm8_inv (op m c) {s : State} (h : s.Inv) : (shiftRm8 op m c s).All State.Inv :=
  (readEA8_all inv_stable h _).bind fun _ _ h =>
    have he := shiftApply_agrees _ _ _ _ h.record
    (writeEA8_all inv_stable h _ _).bind fun _ _ h => h.setFlags he

theorem shiftRm16_inv (op m c) {s : State} (h : s.Inv) : (shiftRm16 op m c s).All State.Inv :=
  (readEA16_all inv_stable h _).bind fun _ _ h =>
    have he := shiftApply_agrees _ _ _ _ h.record
    (writeEA16_all inv_stable h _ _).bind fun _ _ h => h.setFlags he

theorem repeatLoop_inv (c it) (hi : ∀ s, State.Inv s → (it s).All State.Inv) (n : Nat) :
    ∀ {s : State}, s.Inv → (repeatLoop c it n s).All State.Inv := by
  induction n with
  | zero => intro s h; exact h
  | succ n ih =>
    intro s h
    unfold repeatLoop
    split
    · exact h
    · refine (hi _ h).bind fun _ s h => ?_
      dsimp only
      split
      · exact inv_stable.setReg16 h _ _
      · exact ih (inv_stable.setReg16 h _ _)

theorem repeated_inv (c it) (hi : ∀ s, State.Inv s → (it s).All State.Inv) {s : State} (h : s.Inv) :
    (repeated c it s).All State.Inv := by
  unfold repeated
  split
  · exact hi _ h
  · exact repeatLoop_inv _ _ hi _ h
  · exact repeatLoop_inv _ _ hi _ h

theorem pushList_inv (l) : ∀ {s : State}, s.Inv → (pushList l s).All State.Inv := by
  induction l with
  | nil => intro s h; exact h
  | cons v t ih => intro s h; exact (push16_all inv_stable h _).bind fun _ _ h => ih h

theorem popReg_inv (r) {s : State} (h : s.Inv) : (popReg r s).All State.Inv :=
  (pop16_all inv_stable h).bind fun _ _ h => inv_stable.setReg16 h _ _

theorem copyFrames_inv (n) : ∀ {s : State}, s.Inv → (copyFrames n s).All State.Inv := by
  induction n with
  | zero => intro s h; exact h
  | succ n ih => intro s h; exact (memRead16_all (P := State.Inv) (inv_stable.setReg16 h _ _) _ _).bind fun _ _ h =>
    (push16_all inv_stable h _).bind fun _ _ h => ih h

theorem enterDisplay_inv (f n) {s : State} (h : s.Inv) : (enterDisplay f n s).All State.Inv := by
  unfold enterDisplay; split
  · exact h
  · exact (copyFrames_inv _ h).bind fun _ _ h => push16_all inv_stable h _

theorem farPointer_inv (m) {s : State} (h : s.Inv) : (farPointer m s).All State.Inv :=
  (eaOffset_all inv_stable h _).bind fun _ _ h => (readEAWordAt_all inv_stable h _ _).bind fun _ _ h =>
    (readEAWordAt_all inv_stable h _ _).bind fun _ _ h => h

theorem callFar_inv (a b) {s : State} (h : s.Inv) : (callFar a b s).All State.Inv :=
  (checkCS_all h _).bind fun _ _ h => (push16_all inv_stable h _).bind fun _ _ h =>
    (push16_all inv_stable h _).bind fun _ _ h => jumpFar_all inv_stable h _ _

theorem jumpFarChecked_inv (a b) {s : State} (h : s.Inv) : (jumpFarChecked a b s).All State.Inv :=
  (checkCS_all h _).bind fun _ _ h => jumpFar_all inv_stable h _ _

theorem callNear_inv (a) {s : State} (h : s.Inv) : (callNear a s).All State.Inv :=
  (push16_all inv_stable h _).bind fun _ _ h => inv_stable.setIP h _

theorem returnFar_inv (n) {s : State} (h : s.Inv) : (returnFar n s).All State.Inv :=
  (memRead16_all h _ _).bind fun _ _ h => (memRead16_all h _ _).bind fun _ _ h =>
    (checkCS_all h _).bind fun _ _ h => (jumpFar_all inv_stable h _ _).bind fun _ _ h => inv_stable.setReg16 h _ _

theorem exchange8_inv (m) {s : State} (h : s.Inv) : (exchange8 m s).All State.Inv :=
  (readEA8_all inv_stable h _).bind fun _ _ h => (readRegField8_all inv_stable h _).bind fun _ _ h =>
    (writeEA8_all inv_stable h _ _).bind fun _ _ h => writeRegField8_all inv_stable h _ _

theorem exchange16_inv (m) {s : State} (h : s.Inv) : (exchange16 m s).All State.Inv :=
  (readEA16_all inv_stable h _).bind fun _ _ h => (readRegField16_all inv_stable h _).bind fun _ _ h =>
    (writeEA16_all inv_stable h _ _).bind fun _ _ h => writeRegField16_all inv_stable h _ _

theorem checkBounds_inv (m) {s : State} (h : s.Inv) : (checkBounds m s).All State.Inv :=
  (eaOffset_all inv_stable h _).bind fun _ _ h => (readEAWordAt_all inv_stable h _ _).bind fun _ _ h =>
    (readEAWordAt_all inv_stable h _ _).bind fun _ _ h => (readRegField16_all inv_stable h _).bind fun _ _ h => by
    split <;> exact h

theorem loadPointer_inv (r m) {s : State} (h : s.Inv) : (loadPointer r m s).All State.Inv :=
  (eaOffset_all inv_stable h _).bind fun _ _ h => (readEAWordAt_all inv_stable h _ _).bind fun _ _ h =>
    (readEAWordAt_all inv_stable h _ _).bind fun _ _ h => (writeRegField16_all inv_stable h _ _).bind fun _ _ h =>
    writeSReg_all inv_stable h _ _

theorem popAll_inv {s : State} (h : s.Inv) : (popAll s).All State.Inv :=
  (popReg_inv _ h).bind fun _ _ h => (popReg_inv _ h).bind fun _ _ h => (popReg_inv _ h).bind fun _ _ h =>
    (pop16_all inv_stable h).bind fun _ _ h => (popReg_inv _ h).bind fun _ _ h => (popReg_inv _ h).bind fun _ _ h =>
    (popReg_inv _ h).bind fun _ _ h => popReg_inv _ h

theorem unlessEscInvalid_inv {r : Res Unit} {s : State} (h : s.Inv) (hr : r.All State.Inv) :
    (unlessEscInvalid r s).All State.Inv := by
  unfold unlessEscInvalid; split
  · exact hr
  · exact h

theorem adjM_inv (b) {s : State} (h : s.Inv) : (adjustAfterMultiply b s).All State.Inv := by
  unfold adjustAfterMultiply aam
  split
  · exact h
  · rename_i al ah fe e
    split at e
    · cases e
    · cases e; exact inv_stable.setReg16 (h.setFlags (FlagEngine.agrees_of_allExplicit rfl)) _ _

theorem jumpIf_inv (c r) {s : State} (h : s.Inv) : (jumpIf c r s).Inv := by
  unfold jumpIf; split; exact inv_stable.setIP h _; exact h

theorem loopIf_inv (c r) {s : State} (h : s.Inv) : (loopIf c r s).Inv := jumpIf_inv _ _ (inv_stable.setReg16 h _ _)

theorem movs8_inv (s : State) (h : s.Inv) : (movs8 s).All State.Inv :=
  (memRead8_all h _ _).bind fun _ _ h => (memWrite8_all inv_stable h _ _ _).bind fun _ _ h =>
    inv_stable.setReg16 (inv_stable.setReg16 h _ _) _ _

theorem movs16_inv (s : State) (h : s.Inv) : (movs16 s).All State.Inv :=
  (memRead16_all h _ _).bind fun _ _ h => (memWrite16_all inv_stable h _ _ _).bind fun _ _ h =>
    inv_stable.setReg16 (inv_stable.setReg16 h _ _) _ _

theorem cmps8_inv (s : State) (h : s.Inv) : (cmps8 s).All State.Inv :=
  (memRead8_all h _ _).bind fun _ _ h => (memRead8_all h _ _).bind fun _ _ h =>
    inv_stable.setReg16 (inv_stable.setReg16 (h.setFlags (subWith_agrees (.inl rfl) _ _ _ _)) _ _) _ _

theorem cmps16_inv (s : State) (h : s.Inv) : (cmps16 s).All State.Inv :=
  (memRead16_all h _ _).bind fun _ _ h => (memRead16_all h _ _).bind fun _ _ h =>
    inv_stable.setReg16 (inv_stable.setReg16 (h.setFlags (subWith_agrees (.inr rfl) _ _ _ _)) _ _) _ _

theorem scas8_inv (s : State) (h : s.Inv) : (scas8 s).All State.Inv :=
  (memRead8_all h _ _).bind fun _ _ h => inv_stable.setReg16 (h.setFlags (subWith_agrees (.inl rfl) _ _ _ _)) _ _

theorem scas16_inv (s : State) (h : s.Inv) : (scas16 s).All State.Inv :=
  (memRead16_all h _ _).bind fun _ _ h => inv_stable.setReg16 (h.setFlags (subWith_agrees (.inr rfl) _ _ _ _)) _ _

theorem lods8_inv (s : State) (h : s.Inv) : (lods8 s).All State.Inv :=
  (memRead8_all h _ _).bind fun _ _ h => inv_stable.setReg16 (inv_stable.setReg8 h _ _) _ _

theorem lods16_inv (s : State) (h : s.Inv) : (lods16 s).All State.Inv :=
  (memRead16_all h _ _).bind fun _ _ h => inv_stable.setReg16 (inv_stable.setReg16 h _ _) _ _

theorem stos8_inv (s : State) (h : s.Inv) : (stos8 s).All State.Inv :=
  (memWrite8_all inv_stable h _ _ _).bind fun _ _ h => inv_stable.setReg16 h _ _

theorem stos16_inv (s : State) (h : s.Inv) : (stos16 s).All State.Inv :=
  (memWrite16_all inv_stable h _ _ _).bind fun _ _ h => inv_stable.setReg16 h _ _

theorem ins8_inv (s : State) (h : s.Inv) : (ins8 s).All State.Inv :=
  (portRead8_all inv_stable h _).bind fun _ _ h => (memWrite8_all inv_stable h _ _ _).bind fun _ _ h =>
    inv_stable.setReg16 h _ _

theorem ins16_inv (s : State) (h : s.Inv) : (ins16 s).All State.Inv :=
  (portRead16_all inv_stable h _).bind fun _ _ h => (memWrite16_all inv_stable h _ _ _).bind fun _ _ h =>
    inv_stable.setReg16 h _ _

theorem outs8_inv (s : State) (h : s.Inv) : (outs8 s).All State.Inv :=
  (memRead8_all h _ _).bind fun _ _ h => (portWrite8_all inv_stable h _ _).bind fun _ _ h => inv_stable.setReg16 h _ _

theorem outs16_inv (s : State) (h : s.Inv) : (outs16 s).All State.Inv :=
  (memRead16_all h _ _).bind fun _ _ h => (portWrite16_all inv_stable h _ _).bind fun _ _ h =>
    inv_stable.setReg16 h _ _

end Sys2Proof.Machine
end

