-- ==== Sys2Proof/Laws/Operands.lean ====
section
/-! SUPPORT. What the operand accessors give on the first decode of a slot and after it, where the bus refuses
nothing. -/

namespace Sys2Proof.Machine

/-! ### The decode -/

@[simp] theorem ModRM.cache_valid (m : ModRM) (s : State) : (m.cache s).valid = true := by
  unfold ModRM.cache
  split <;> rfl

/-- The first decode of a slot writes the cache and nothing else. -/
theorem decodeModRM_fresh {m : ModRM} {s : State} (h : s.doc.valid = false) :
    decodeModRM m s = { s with doc := m.cache s } := by
  simp [decodeModRM, h]

/-- A later decode changes nothing (10_state R97). -/
@[simp] theorem decodeModRM_valid {m : ModRM} {s : State} (h : s.doc.valid = true) : decodeModRM m s = s := by
  simp [decodeModRM, h]

@[simp] theorem modrm8_reg (g : BitVec 3) (rm : Rm Reg8) : (modrm8 g rm).reg = g := rfl

@[simp] theorem modrm16_reg (g : BitVec 3) (rm : Rm Reg16) : (modrm16 g rm).reg = g := rfl

@[simp] theorem modrmMem_reg (g : BitVec 3) (m : MemEA) : (modrmMem g m).reg = g := rfl

/-- The reg field of the cache. -/
@[simp] theorem ModRM.cache_reg (m : ModRM) (s : State) : (m.cache s).reg = m.reg := by
  unfold ModRM.cache
  split <;> rfl

/-- The cache of a byte register operand. -/
theorem cache8_reg (g : BitVec 3) (r : Reg8) (s : State) :
    ((modrm8 g (.reg r)).cache s).isMem = false ∧ ((modrm8 g (.reg r)).cache s).rm = r.num :=
  ⟨rfl, rfl⟩

/-- The cache of a word register operand. -/
theorem cache16_reg (g : BitVec 3) (r : Reg16) (s : State) :
    ((modrm16 g (.reg r)).cache s).isMem = false ∧ ((modrm16 g (.reg r)).cache s).rm = r.num :=
  ⟨rfl, rfl⟩

/-- The cache of a memory operand of a byte form. -/
theorem cache8_mem (g : BitVec 3) (e : MemEA) (s : State) :
    ((modrm8 g (.mem e)).cache s).isMem = true ∧ ((modrm8 g (.mem e)).cache s).seg = s.segmentOr (formSeg e) ∧
      ((modrm8 g (.mem e)).cache s).off = formOffset s.regs e :=
  ⟨rfl, rfl, rfl⟩

/-- The cache of a memory operand of a word form. -/
theorem cache16_mem (g : BitVec 3) (e : MemEA) (s : State) :
    ((modrm16 g (.mem e)).cache s).isMem = true ∧ ((modrm16 g (.mem e)).cache s).seg = s.segmentOr (formSeg e) ∧
      ((modrm16 g (.mem e)).cache s).off = formOffset s.regs e :=
  ⟨rfl, rfl, rfl⟩

/-- The cache of an operand that must be memory. -/
theorem cacheMem (g : BitVec 3) (e : MemEA) (s : State) :
    ((modrmMem g e).cache s).isMem = true ∧ ((modrmMem g e).cache s).seg = s.segmentOr (formSeg e) ∧
      ((modrmMem g e).cache s).off = formOffset s.regs e :=
  ⟨rfl, rfl, rfl⟩

/-! ### Reads on the first decode -/

theorem readEA8_reg {s : State} (h : s.doc.valid = false) (g : BitVec 3) (r : Reg8) :
    readEA8 (modrm8 g (.reg r)) s = .ok (s.reg8 r) { s with doc := (modrm8 g (.reg r)).cache s } := by
  simp [readEA8, decodeModRM_fresh h, cache8_reg, State.reg8]

theorem readEA16_reg {s : State} (h : s.doc.valid = false) (g : BitVec 3) (r : Reg16) :
    readEA16 (modrm16 g (.reg r)) s = .ok (s.reg16 r) { s with doc := (modrm16 g (.reg r)).cache s } := by
  simp [readEA16, decodeModRM_fresh h, cache16_reg, State.reg16]

theorem readEA8_mem {s : State} (h : s.doc.valid = false) (g : BitVec 3) (e : MemEA)
    (hr : s.bus.refusal false (s.segmentOr (formSeg e)) (formOffset s.regs e) = none) :
    readEA8 (modrm8 g (.mem e)) s =
      .ok (s.byteAt (s.segmentOr (formSeg e)) (formOffset s.regs e))
        { s with doc := (modrm8 g (.mem e)).cache s } := by
  simp [readEA8, decodeModRM_fresh h, cache8_mem, memRead8, hr, State.byteAt]

theorem readEA16_mem {s : State} (h : s.doc.valid = false) (g : BitVec 3) (e : MemEA)
    (hr : s.bus.refusal false (s.segmentOr (formSeg e)) (formOffset s.regs e) = none)
    (hr' : s.bus.refusal false (s.segmentOr (formSeg e)) (formOffset s.regs e + 1) = none) :
    readEA16 (modrm16 g (.mem e)) s =
      .ok (s.wordAt (s.segmentOr (formSeg e)) (formOffset s.regs e))
        { s with doc := (modrm16 g (.mem e)).cache s } := by
  have h1 := memRead16_eq (s := { s with doc := (modrm16 g (.mem e)).cache s }) hr hr'
  simp only [readEA16, decodeModRM_fresh h, cache16_mem, if_true, h1]
  rfl

/-! ### Writes after the decode -/

theorem writeEA8_reg {s : State} (h : s.doc.valid = true) (hm : s.doc.isMem = false) (m : ModRM) (v : Byte) :
    writeEA8 m v s = .ok () (s.setReg8 (Reg8.ofNum s.doc.rm) v) := by
  simp [writeEA8, h, hm, Res.done]

theorem writeEA16_reg {s : State} (h : s.doc.valid = true) (hm : s.doc.isMem = false) (m : ModRM) (v : Word) :
    writeEA16 m v s = .ok () (s.setReg16 (Reg16.ofNum s.doc.rm) v) := by
  simp [writeEA16, h, hm, Res.done]

theorem writeEA8_mem {s : State} (h : s.doc.valid = true) (hm : s.doc.isMem = true) (m : ModRM) (v : Byte)
    (hw : s.bus.refusal true s.doc.seg s.doc.off = none) :
    writeEA8 m v s = .ok () (s.putByte s.doc.seg s.doc.off v) := by
  simp [writeEA8, h, hm, memWrite8_eq v hw]

theorem writeEA16_mem {s : State} (h : s.doc.valid = true) (hm : s.doc.isMem = true) (m : ModRM) (v : Word)
    (hw : s.bus.refusal true s.doc.seg s.doc.off = none) (hw' : s.bus.refusal true s.doc.seg (s.doc.off + 1) = none) :
    writeEA16 m v s = .ok () (s.putWord s.doc.seg s.doc.off v) := by
  simp [writeEA16, h, hm, memWrite16_eq v hw hw']

theorem writeEA8_refused {s : State} (h : s.doc.valid = true) (hm : s.doc.isMem = true) (m : ModRM) (v : Byte)
    {f : CpuFault} (hw : s.bus.refusal true s.doc.seg s.doc.off = some f) : writeEA8 m v s = .raise f s := by
  simp [writeEA8, h, hm, memWrite8_refused v hw]

theorem writeEA16_refused {s : State} (h : s.doc.valid = true) (hm : s.doc.isMem = true) (m : ModRM) (v : Word)
    {f : CpuFault} (hw : s.bus.refusal true s.doc.seg s.doc.off = some f) : writeEA16 m v s = .raise f s := by
  simp [writeEA16, h, hm, memWrite16_refused v hw]

/-! ### The register field after the decode -/

theorem readRegField8_valid {s : State} (h : s.doc.valid = true) (m : ModRM) :
    readRegField8 m s = .ok (s.reg8 (Reg8.ofNum s.doc.reg)) s := by
  simp [readRegField8, h]

theorem readRegField16_valid {s : State} (h : s.doc.valid = true) (m : ModRM) :
    readRegField16 m s = .ok (s.reg16 (Reg16.ofNum s.doc.reg)) s := by
  simp [readRegField16, h]

theorem writeRegField8_valid {s : State} (h : s.doc.valid = true) (m : ModRM) (v : Byte) :
    writeRegField8 m v s = .ok () (s.setReg8 (Reg8.ofNum s.doc.reg) v) := by
  simp [writeRegField8, h, Res.done]

theorem writeRegField16_valid {s : State} (h : s.doc.valid = true) (m : ModRM) (v : Word) :
    writeRegField16 m v s = .ok () (s.setReg16 (Reg16.ofNum s.doc.reg) v) := by
  simp [writeRegField16, h, Res.done]

/-! ### The stack where nothing is refused -/

theorem push16_eq {s : State} (v : Word) (h : s.bus.refusal true s.sregs.ss (s.regs.sp - 2) = none)
    (h' : s.bus.refusal true s.sregs.ss (s.regs.sp - 2 + 1) = none) :
    push16 v s = .ok () ((s.putWord s.sregs.ss (s.regs.sp - 2) v).setSP (s.regs.sp - 2)) := by
  simp only [push16, memWrite16_eq v h h', Res.bind_ok]
  rfl

theorem pop16_eq {s : State} (h : s.bus.refusal false s.sregs.ss s.regs.sp = none)
    (h' : s.bus.refusal false s.sregs.ss (s.regs.sp + 1) = none) :
    pop16 s = .ok (s.wordAt s.sregs.ss s.regs.sp) (s.setSP (s.regs.sp + 2)) := by
  simp only [pop16, memRead16_eq h h', Res.bind_ok]

/-- A push whose write is refused leaves SP as it was (47 R480). -/
theorem push16_refused {s t : State} {v : Word} {f : CpuFault}
    (h : memWrite16 s.sregs.ss (s.regs.sp - 2) v s = .raise f t) : push16 v s = .raise f t := by
  simp only [push16, h, Res.bind_raise]

/-- A pop whose read is refused changes nothing (47 R481). -/
theorem pop16_refused {s : State} {f : CpuFault} (h : memRead16 s.sregs.ss s.regs.sp s = .raise f s) :
    pop16 s = .raise f s := by
  simp only [pop16, h, Res.bind_raise]

/-! ### The fetch -/

/-- No setting refuses a prefix byte (30_encoding R175, 49 R598, R599). -/
@[simp] theorem opcodeRefused_prefix {p : Params} {op : Byte} (h : prefixByte op = true) : opcodeRefused p op = false := by
  simp [opcodeRefused, h]

/-- The decode of fetched bytes is that of the ModRM operand they hold. -/
theorem openOperand_eq {bytes : List Byte} {g : BitVec 3} {rm : Rm (BitVec 3)} {rest : List Byte} (s : State)
    (h : readModRM bytes = some (g, rm, rest)) : openOperand bytes s = decodeModRM ⟨g, rm⟩ s := by
  simp [openOperand, h]

/-- What `modrmBytes` writes out is opened as the operand it was written from. -/
theorem openOperand_modrmBytes (g : BitVec 3) {rm : Rm (BitVec 3)} (rest : List Byte) (s : State) (h : rm.wf = true) :
    openOperand (modrmBytes g rm ++ rest) s = decodeModRM ⟨g, rm⟩ s :=
  openOperand_eq s (readModRM_modrmBytes g rm rest h)

/-- Outside the admitted holes an instruction is decoded by its own ModRM byte. -/
@[simp] theorem rowByte_of_not_takenOut {p : Params} {op m : Byte} (h : takenOut p [op, m] = false) :
    rowByte p op m = m := by
  simp [rowByte, h]

/-- An admitted hole is decoded by its own mod and rm fields and the reg field of the row it stands for. -/
theorem rowByte_of_takenOut {p : Params} {op m : Byte} (h : takenOut p [op, m] = true) :
    rowByte p op m = modrmByte (modOf m) (admittedReg op (regOf m)) (rmOf m) := by
  simp [rowByte, h]

/-- At a row that the host has not added to INVALID_OPCODES the fetch goes on after the ModRM byte. -/
theorem refusedAtModRM_row {p : Params} {op m : Byte} (h : pairRefused p op m = false)
    (hd : dispatchHole op (regOf m) = false) : refusedAtModRM p op m = false := by
  simp [refusedAtModRM, h, hd]

/-- Where no rule decodes first, only the host's admission keeps InvalidOpcode from being raised at the ModRM byte. -/
theorem refusedAtModRM_dispatchHole {p : Params} {op m : Byte} (hd : dispatchHole op (regOf m) = true) :
    refusedAtModRM p op m = (pairRefused p op m || !takenOut p [op, m]) := by
  simp [refusedAtModRM, hd]

/-- An encoding without any effect in the spec is one whose verdict no rule places after a decode. -/
theorem dispatchHole_of_lacksRule {op : Byte} {g : BitVec 3} (h : lacksRule op g = true) : dispatchHole op g = true := by
  simp [dispatchHole, h]

/-- The row an admitted hole stands for has the same displacement. -/
@[simp] theorem dispLen_rowByte (p : Params) (op m : Byte) : dispLen (rowByte p op m) = dispLen m := by
  unfold rowByte
  split <;> simp [dispLen]

end Sys2Proof.Machine
end

