-- ==== Sys2Proof/Laws/PerInstr.lean ====
section
/-! SUPPORT. Per-instruction laws of the syntax, one lemma for each constructor. `EncodeLength`: an encoding has one to
six bytes (30_encoding R170: seven with one prefix). -/

set_option Elab.async false

namespace Sys2Proof.Laws.EncodeLength

/-- The encoding of an instruction has at least one byte and at most six. -/
def Statement (i : Instr) : Prop := 1 ≤ (encode i).length ∧ (encode i).length ≤ 6

theorem length_dispBytes (rm : Rm (BitVec 3)) : rm.dispBytes.length ≤ 2 := by
  rcases rm with n | (b | ⟨b, d⟩ | ⟨b, d⟩ | d) <;> simp [Rm.dispBytes]

theorem length_encRm8 (op : Byte) (g : BitVec 3) (rm : Rm Reg8) :
    1 ≤ (encRm8 op g rm).length ∧ (encRm8 op g rm).length ≤ 4 := by
  have := length_dispBytes rm.nums8
  simp only [encRm8, modrmBytes, List.length_cons]
  omega

theorem length_encRm16 (op : Byte) (g : BitVec 3) (rm : Rm Reg16) :
    1 ≤ (encRm16 op g rm).length ∧ (encRm16 op g rm).length ≤ 4 := by
  have := length_dispBytes rm.nums16
  simp only [encRm16, modrmBytes, List.length_cons]
  omega

theorem length_encMem (op : Byte) (g : BitVec 3) (m : MemEA) :
    1 ≤ (encMem op g m).length ∧ (encMem op g m).length ≤ 4 := by
  have := length_dispBytes (.mem m)
  simp only [encMem, modrmBytes, List.length_cons]
  omega

/-- An operand encoding followed by at most two immediate bytes. -/
theorem withImm {l t : List Byte} (h : 1 ≤ l.length ∧ l.length ≤ 4) (ht : t.length ≤ 2) :
    1 ≤ (l ++ t).length ∧ (l ++ t).length ≤ 6 := by
  rw [List.length_append]; omega

theorem addRm8R8 (rm : Rm Reg8) (r : Reg8) : Statement (.addRm8R8 rm r) :=
  ⟨(length_encRm8 _ _ _).1, (length_encRm8 _ _ _).2.trans (by decide)⟩

theorem addRm16R16 (rm : Rm Reg16) (r : Reg16) : Statement (.addRm16R16 rm r) :=
  ⟨(length_encRm16 _ _ _).1, (length_encRm16 _ _ _).2.trans (by decide)⟩

theorem addR8Rm8 (r : Reg8) (rm : Rm Reg8) : Statement (.addR8Rm8 r rm) :=
  ⟨(length_encRm8 _ _ _).1, (length_encRm8 _ _ _).2.trans (by decide)⟩

theorem addR16Rm16 (r : Reg16) (rm : Rm Reg16) : Statement (.addR16Rm16 r rm) :=
  ⟨(length_encRm16 _ _ _).1, (length_encRm16 _ _ _).2.trans (by decide)⟩

theorem addAlImm8 (imm : Byte) : Statement (.addAlImm8 imm) :=
  show 1 ≤ 2 ∧ 2 ≤ 6 by decide

theorem addAxImm16 (imm : Word) : Statement (.addAxImm16 imm) :=
  show 1 ≤ 3 ∧ 3 ≤ 6 by decide

theorem orRm8R8 (rm : Rm Reg8) (r : Reg8) : Statement (.orRm8R8 rm r) :=
  ⟨(length_encRm8 _ _ _).1, (length_encRm8 _ _ _).2.trans (by decide)⟩

theorem orRm16R16 (rm : Rm Reg16) (r : Reg16) : Statement (.orRm16R16 rm r) :=
  ⟨(length_encRm16 _ _ _).1, (length_encRm16 _ _ _).2.trans (by decide)⟩

theorem orR8Rm8 (r : Reg8) (rm : Rm Reg8) : Statement (.orR8Rm8 r rm) :=
  ⟨(length_encRm8 _ _ _).1, (length_encRm8 _ _ _).2.trans (by decide)⟩

theorem orR16Rm16 (r : Reg16) (rm : Rm Reg16) : Statement (.orR16Rm16 r rm) :=
  ⟨(length_encRm16 _ _ _).1, (length_encRm16 _ _ _).2.trans (by decide)⟩

theorem orAlImm8 (imm : Byte) : Statement (.orAlImm8 imm) :=
  show 1 ≤ 2 ∧ 2 ≤ 6 by decide

theorem orAxImm16 (imm : Word) : Statement (.orAxImm16 imm) :=
  show 1 ≤ 3 ∧ 3 ≤ 6 by decide

theorem adcRm8R8 (rm : Rm Reg8) (r : Reg8) : Statement (.adcRm8R8 rm r) :=
  ⟨(length_encRm8 _ _ _).1, (length_encRm8 _ _ _).2.trans (by decide)⟩

theorem adcRm16R16 (rm : Rm Reg16) (r : Reg16) : Statement (.adcRm16R16 rm r) :=
  ⟨(length_encRm16 _ _ _).1, (length_encRm16 _ _ _).2.trans (by decide)⟩

theorem adcR8Rm8 (r : Reg8) (rm : Rm Reg8) : Statement (.adcR8Rm8 r rm) :=
  ⟨(length_encRm8 _ _ _).1, (length_encRm8 _ _ _).2.trans (by decide)⟩

theorem adcR16Rm16 (r : Reg16) (rm : Rm Reg16) : Statement (.adcR16Rm16 r rm) :=
  ⟨(length_encRm16 _ _ _).1, (length_encRm16 _ _ _).2.trans (by decide)⟩

theorem adcAlImm8 (imm : Byte) : Statement (.adcAlImm8 imm) :=
  show 1 ≤ 2 ∧ 2 ≤ 6 by decide

theorem adcAxImm16 (imm : Word) : Statement (.adcAxImm16 imm) :=
  show 1 ≤ 3 ∧ 3 ≤ 6 by decide

theorem sbbRm8R8 (rm : Rm Reg8) (r : Reg8) : Statement (.sbbRm8R8 rm r) :=
  ⟨(length_encRm8 _ _ _).1, (length_encRm8 _ _ _).2.trans (by decide)⟩

theorem sbbRm16R16 (rm : Rm Reg16) (r : Reg16) : Statement (.sbbRm16R16 rm r) :=
  ⟨(length_encRm16 _ _ _).1, (length_encRm16 _ _ _).2.trans (by decide)⟩

theorem sbbR8Rm8 (r : Reg8) (rm : Rm Reg8) : Statement (.sbbR8Rm8 r rm) :=
  ⟨(length_encRm8 _ _ _).1, (length_encRm8 _ _ _).2.trans (by decide)⟩

theorem sbbR16Rm16 (r : Reg16) (rm : Rm Reg16) : Statement (.sbbR16Rm16 r rm) :=
  ⟨(length_encRm16 _ _ _).1, (length_encRm16 _ _ _).2.trans (by decide)⟩

theorem sbbAlImm8 (imm : Byte) : Statement (.sbbAlImm8 imm) :=
  show 1 ≤ 2 ∧ 2 ≤ 6 by decide

theorem sbbAxImm16 (imm : Word) : Statement (.sbbAxImm16 imm) :=
  show 1 ≤ 3 ∧ 3 ≤ 6 by decide

theorem andRm8R8 (rm : Rm Reg8) (r : Reg8) : Statement (.andRm8R8 rm r) :=
  ⟨(length_encRm8 _ _ _).1, (length_encRm8 _ _ _).2.trans (by decide)⟩

theorem andRm16R16 (rm : Rm Reg16) (r : Reg16) : Statement (.andRm16R16 rm r) :=
  ⟨(length_encRm16 _ _ _).1, (length_encRm16 _ _ _).2.trans (by decide)⟩

theorem andR8Rm8 (r : Reg8) (rm : Rm Reg8) : Statement (.andR8Rm8 r rm) :=
  ⟨(length_encRm8 _ _ _).1, (length_encRm8 _ _ _).2.trans (by decide)⟩

theorem andR16Rm16 (r : Reg16) (rm : Rm Reg16) : Statement (.andR16Rm16 r rm) :=
  ⟨(length_encRm16 _ _ _).1, (length_encRm16 _ _ _).2.trans (by decide)⟩

theorem andAlImm8 (imm : Byte) : Statement (.andAlImm8 imm) :=
  show 1 ≤ 2 ∧ 2 ≤ 6 by decide

theorem andAxImm16 (imm : Word) : Statement (.andAxImm16 imm) :=
  show 1 ≤ 3 ∧ 3 ≤ 6 by decide

theorem subRm8R8 (rm : Rm Reg8) (r : Reg8) : Statement (.subRm8R8 rm r) :=
  ⟨(length_encRm8 _ _ _).1, (length_encRm8 _ _ _).2.trans (by decide)⟩

theorem subRm16R16 (rm : Rm Reg16) (r : Reg16) : Statement (.subRm16R16 rm r) :=
  ⟨(length_encRm16 _ _ _).1, (length_encRm16 _ _ _).2.trans (by decide)⟩

theorem subR8Rm8 (r : Reg8) (rm : Rm Reg8) : Statement (.subR8Rm8 r rm) :=
  ⟨(length_encRm8 _ _ _).1, (length_encRm8 _ _ _).2.trans (by decide)⟩

theorem subR16Rm16 (r : Reg16) (rm : Rm Reg16) : Statement (.subR16Rm16 r rm) :=
  ⟨(length_encRm16 _ _ _).1, (length_encRm16 _ _ _).2.trans (by decide)⟩

theorem subAlImm8 (imm : Byte) : Statement (.subAlImm8 imm) :=
  show 1 ≤ 2 ∧ 2 ≤ 6 by decide

theorem subAxImm16 (imm : Word) : Statement (.subAxImm16 imm) :=
  show 1 ≤ 3 ∧ 3 ≤ 6 by decide

theorem xorRm8R8 (rm : Rm Reg8) (r : Reg8) : Statement (.xorRm8R8 rm r) :=
  ⟨(length_encRm8 _ _ _).1, (length_encRm8 _ _ _).2.trans (by decide)⟩

theorem xorRm16R16 (rm : Rm Reg16) (r : Reg16) : Statement (.xorRm16R16 rm r) :=
  ⟨(length_encRm16 _ _ _).1, (length_encRm16 _ _ _).2.trans (by decide)⟩

theorem xorR8Rm8 (r : Reg8) (rm : Rm Reg8) : Statement (.xorR8Rm8 r rm) :=
  ⟨(length_encRm8 _ _ _).1, (length_encRm8 _ _ _).2.trans (by decide)⟩

theorem xorR16Rm16 (r : Reg16) (rm : Rm Reg16) : Statement (.xorR16Rm16 r rm) :=
  ⟨(length_encRm16 _ _ _).1, (length_encRm16 _ _ _).2.trans (by decide)⟩

theorem xorAlImm8 (imm : Byte) : Statement (.xorAlImm8 imm) :=
  show 1 ≤ 2 ∧ 2 ≤ 6 by decide

theorem xorAxImm16 (imm : Word) : Statement (.xorAxImm16 imm) :=
  show 1 ≤ 3 ∧ 3 ≤ 6 by decide

theorem cmpRm8R8 (rm : Rm Reg8) (r : Reg8) : Statement (.cmpRm8R8 rm r) :=
  ⟨(length_encRm8 _ _ _).1, (length_encRm8 _ _ _).2.trans (by decide)⟩

theorem cmpRm16R16 (rm : Rm Reg16) (r : Reg16) : Statement (.cmpRm16R16 rm r) :=
  ⟨(length_encRm16 _ _ _).1, (length_encRm16 _ _ _).2.trans (by decide)⟩

theorem cmpR8Rm8 (r : Reg8) (rm : Rm Reg8) : Statement (.cmpR8Rm8 r rm) :=
  ⟨(length_encRm8 _ _ _).1, (length_encRm8 _ _ _).2.trans (by decide)⟩

theorem cmpR16Rm16 (r : Reg16) (rm : Rm Reg16) : Statement (.cmpR16Rm16 r rm) :=
  ⟨(length_encRm16 _ _ _).1, (length_encRm16 _ _ _).2.trans (by decide)⟩

theorem cmpAlImm8 (imm : Byte) : Statement (.cmpAlImm8 imm) :=
  show 1 ≤ 2 ∧ 2 ≤ 6 by decide

theorem cmpAxImm16 (imm : Word) : Statement (.cmpAxImm16 imm) :=
  show 1 ≤ 3 ∧ 3 ≤ 6 by decide

theorem incR16 (r : Reg16) : Statement (.incR16 r) :=
  show 1 ≤ 1 ∧ 1 ≤ 6 by decide

theorem decR16 (r : Reg16) : Statement (.decR16 r) :=
  show 1 ≤ 1 ∧ 1 ≤ 6 by decide

theorem pushR16 (r : Reg16) : Statement (.pushR16 r) :=
  show 1 ≤ 1 ∧ 1 ≤ 6 by decide

theorem popR16 (r : Reg16) : Statement (.popR16 r) :=
  show 1 ≤ 1 ∧ 1 ≤ 6 by decide

theorem boundR16M (r : Reg16) (m : MemEA) : Statement (.boundR16M r m) :=
  ⟨(length_encMem _ _ _).1, (length_encMem _ _ _).2.trans (by decide)⟩

theorem pushImm16 (imm : Word) : Statement (.pushImm16 imm) :=
  show 1 ≤ 3 ∧ 3 ≤ 6 by decide

theorem imulR16Rm16Imm16 (r : Reg16) (rm : Rm Reg16) (imm : Word) : Statement (.imulR16Rm16Imm16 r rm imm) :=
  withImm (length_encRm16 _ _ _) (show 2 ≤ 2 by decide)

theorem pushImm8s (imm : Byte) : Statement (.pushImm8s imm) :=
  show 1 ≤ 2 ∧ 2 ≤ 6 by decide

theorem imulR16Rm16Imm8s (r : Reg16) (rm : Rm Reg16) (imm : Byte) : Statement (.imulR16Rm16Imm8s r rm imm) :=
  withImm (length_encRm16 _ _ _) (show 1 ≤ 2 by decide)

theorem joRel8 (rel : Byte) : Statement (.joRel8 rel) :=
  show 1 ≤ 2 ∧ 2 ≤ 6 by decide

theorem jnoRel8 (rel : Byte) : Statement (.jnoRel8 rel) :=
  show 1 ≤ 2 ∧ 2 ≤ 6 by decide

theorem jbRel8 (rel : Byte) : Statement (.jbRel8 rel) :=
  show 1 ≤ 2 ∧ 2 ≤ 6 by decide

theorem jaeRel8 (rel : Byte) : Statement (.jaeRel8 rel) :=
  show 1 ≤ 2 ∧ 2 ≤ 6 by decide

theorem jeRel8 (rel : Byte) : Statement (.jeRel8 rel) :=
  show 1 ≤ 2 ∧ 2 ≤ 6 by decide

theorem jneRel8 (rel : Byte) : Statement (.jneRel8 rel) :=
  show 1 ≤ 2 ∧ 2 ≤ 6 by decide

theorem jbeRel8 (rel : Byte) : Statement (.jbeRel8 rel) :=
  show 1 ≤ 2 ∧ 2 ≤ 6 by decide

theorem jaRel8 (rel : Byte) : Statement (.jaRel8 rel) :=
  show 1 ≤ 2 ∧ 2 ≤ 6 by decide

theorem jsRel8 (rel : Byte) : Statement (.jsRel8 rel) :=
  show 1 ≤ 2 ∧ 2 ≤ 6 by decide

theorem jnsRel8 (rel : Byte) : Statement (.jnsRel8 rel) :=
  show 1 ≤ 2 ∧ 2 ≤ 6 by decide

theorem jpRel8 (rel : Byte) : Statement (.jpRel8 rel) :=
  show 1 ≤ 2 ∧ 2 ≤ 6 by decide

theorem jnpRel8 (rel : Byte) : Statement (.jnpRel8 rel) :=
  show 1 ≤ 2 ∧ 2 ≤ 6 by decide

theorem jlRel8 (rel : Byte) : Statement (.jlRel8 rel) :=
  show 1 ≤ 2 ∧ 2 ≤ 6 by decide

theorem jgeRel8 (rel : Byte) : Statement (.jgeRel8 rel) :=
  show 1 ≤ 2 ∧ 2 ≤ 6 by decide

theorem jleRel8 (rel : Byte) : Statement (.jleRel8 rel) :=
  show 1 ≤ 2 ∧ 2 ≤ 6 by decide

theorem jgRel8 (rel : Byte) : Statement (.jgRel8 rel) :=
  show 1 ≤ 2 ∧ 2 ≤ 6 by decide

theorem addRm8Imm8 (rm : Rm Reg8) (imm : Byte) : Statement (.addRm8Imm8 rm imm) :=
  withImm (length_encRm8 _ _ _) (show 1 ≤ 2 by decide)

theorem orRm8Imm8 (rm : Rm Reg8) (imm : Byte) : Statement (.orRm8Imm8 rm imm) :=
  withImm (length_encRm8 _ _ _) (show 1 ≤ 2 by decide)

theorem adcRm8Imm8 (rm : Rm Reg8) (imm : Byte) : Statement (.adcRm8Imm8 rm imm) :=
  withImm (length_encRm8 _ _ _) (show 1 ≤ 2 by decide)

theorem sbbRm8Imm8 (rm : Rm Reg8) (imm : Byte) : Statement (.sbbRm8Imm8 rm imm) :=
  withImm (length_encRm8 _ _ _) (show 1 ≤ 2 by decide)

theorem andRm8Imm8 (rm : Rm Reg8) (imm : Byte) : Statement (.andRm8Imm8 rm imm) :=
  withImm (length_encRm8 _ _ _) (show 1 ≤ 2 by decide)

theorem subRm8Imm8 (rm : Rm Reg8) (imm : Byte) : Statement (.subRm8Imm8 rm imm) :=
  withImm (length_encRm8 _ _ _) (show 1 ≤ 2 by decide)

theorem xorRm8Imm8 (rm : Rm Reg8) (imm : Byte) : Statement (.xorRm8Imm8 rm imm) :=
  withImm (length_encRm8 _ _ _) (show 1 ≤ 2 by decide)

theorem cmpRm8Imm8 (rm : Rm Reg8) (imm : Byte) : Statement (.cmpRm8Imm8 rm imm) :=
  withImm (length_encRm8 _ _ _) (show 1 ≤ 2 by decide)

theorem addRm16Imm16 (rm : Rm Reg16) (imm : Word) : Statement (.addRm16Imm16 rm imm) :=
  withImm (length_encRm16 _ _ _) (show 2 ≤ 2 by decide)

theorem orRm16Imm16 (rm : Rm Reg16) (imm : Word) : Statement (.orRm16Imm16 rm imm) :=
  withImm (length_encRm16 _ _ _) (show 2 ≤ 2 by decide)

theorem adcRm16Imm16 (rm : Rm Reg16) (imm : Word) : Statement (.adcRm16Imm16 rm imm) :=
  withImm (length_encRm16 _ _ _) (show 2 ≤ 2 by decide)

theorem sbbRm16Imm16 (rm : Rm Reg16) (imm : Word) : Statement (.sbbRm16Imm16 rm imm) :=
  withImm (length_encRm16 _ _ _) (show 2 ≤ 2 by decide)

theorem andRm16Imm16 (rm : Rm Reg16) (imm : Word) : Statement (.andRm16Imm16 rm imm) :=
  withImm (length_encRm16 _ _ _) (show 2 ≤ 2 by decide)

theorem subRm16Imm16 (rm : Rm Reg16) (imm : Word) : Statement (.subRm16Imm16 rm imm) :=
  withImm (length_encRm16 _ _ _) (show 2 ≤ 2 by decide)

theorem xorRm16Imm16 (rm : Rm Reg16) (imm : Word) : Statement (.xorRm16Imm16 rm imm) :=
  withImm (length_encRm16 _ _ _) (show 2 ≤ 2 by decide)

theorem cmpRm16Imm16 (rm : Rm Reg16) (imm : Word) : Statement (.cmpRm16Imm16 rm imm) :=
  withImm (length_encRm16 _ _ _) (show 2 ≤ 2 by decide)

theorem addRm8Imm8Op82 (rm : Rm Reg8) (imm : Byte) : Statement (.addRm8Imm8Op82 rm imm) :=
  withImm (length_encRm8 _ _ _) (show 1 ≤ 2 by decide)

theorem orRm8Imm8Op82 (rm : Rm Reg8) (imm : Byte) : Statement (.orRm8Imm8Op82 rm imm) :=
  withImm (length_encRm8 _ _ _) (show 1 ≤ 2 by decide)

theorem adcRm8Imm8Op82 (rm : Rm Reg8) (imm : Byte) : Statement (.adcRm8Imm8Op82 rm imm) :=
  withImm (length_encRm8 _ _ _) (show 1 ≤ 2 by decide)

theorem sbbRm8Imm8Op82 (rm : Rm Reg8) (imm : Byte) : Statement (.sbbRm8Imm8Op82 rm imm) :=
  withImm (length_encRm8 _ _ _) (show 1 ≤ 2 by decide)

theorem andRm8Imm8Op82 (rm : Rm Reg8) (imm : Byte) : Statement (.andRm8Imm8Op82 rm imm) :=
  withImm (length_encRm8 _ _ _) (show 1 ≤ 2 by decide)

theorem subRm8Imm8Op82 (rm : Rm Reg8) (imm : Byte) : Statement (.subRm8Imm8Op82 rm imm) :=
  withImm (length_encRm8 _ _ _) (show 1 ≤ 2 by decide)

theorem xorRm8Imm8Op82 (rm : Rm Reg8) (imm : Byte) : Statement (.xorRm8Imm8Op82 rm imm) :=
  withImm (length_encRm8 _ _ _) (show 1 ≤ 2 by decide)

theorem cmpRm8Imm8Op82 (rm : Rm Reg8) (imm : Byte) : Statement (.cmpRm8Imm8Op82 rm imm) :=
  withImm (length_encRm8 _ _ _) (show 1 ≤ 2 by decide)

theorem addRm16Imm8s (rm : Rm Reg16) (imm : Byte) : Statement (.addRm16Imm8s rm imm) :=
  withImm (length_encRm16 _ _ _) (show 1 ≤ 2 by decide)

theorem orRm16Imm8s (rm : Rm Reg16) (imm : Byte) : Statement (.orRm16Imm8s rm imm) :=
  withImm (length_encRm16 _ _ _) (show 1 ≤ 2 by decide)

theorem adcRm16Imm8s (rm : Rm Reg16) (imm : Byte) : Statement (.adcRm16Imm8s rm imm) :=
  withImm (length_encRm16 _ _ _) (show 1 ≤ 2 by decide)

theorem sbbRm16Imm8s (rm : Rm Reg16) (imm : Byte) : Statement (.sbbRm16Imm8s rm imm) :=
  withImm (length_encRm16 _ _ _) (show 1 ≤ 2 by decide)

theorem andRm16Imm8s (rm : Rm Reg16) (imm : Byte) : Statement (.andRm16Imm8s rm imm) :=
  withImm (length_encRm16 _ _ _) (show 1 ≤ 2 by decide)

theorem subRm16Imm8s (rm : Rm Reg16) (imm : Byte) : Statement (.subRm16Imm8s rm imm) :=
  withImm (length_encRm16 _ _ _) (show 1 ≤ 2 by decide)

theorem xorRm16Imm8s (rm : Rm Reg16) (imm : Byte) : Statement (.xorRm16Imm8s rm imm) :=
  withImm (length_encRm16 _ _ _) (show 1 ≤ 2 by decide)

theorem cmpRm16Imm8s (rm : Rm Reg16) (imm : Byte) : Statement (.cmpRm16Imm8s rm imm) :=
  withImm (length_encRm16 _ _ _) (show 1 ≤ 2 by decide)

theorem testRm8R8 (rm : Rm Reg8) (r : Reg8) : Statement (.testRm8R8 rm r) :=
  ⟨(length_encRm8 _ _ _).1, (length_encRm8 _ _ _).2.trans (by decide)⟩

theorem testRm16R16 (rm : Rm Reg16) (r : Reg16) : Statement (.testRm16R16 rm r) :=
  ⟨(length_encRm16 _ _ _).1, (length_encRm16 _ _ _).2.trans (by decide)⟩

theorem xchgRm8R8 (rm : Rm Reg8) (r : Reg8) : Statement (.xchgRm8R8 rm r) :=
  ⟨(length_encRm8 _ _ _).1, (length_encRm8 _ _ _).2.trans (by decide)⟩

theorem xchgRm16R16 (rm : Rm Reg16) (r : Reg16) : Statement (.xchgRm16R16 rm r) :=
  ⟨(length_encRm16 _ _ _).1, (length_encRm16 _ _ _).2.trans (by decide)⟩

theorem movRm8R8 (rm : Rm Reg8) (r : Reg8) : Statement (.movRm8R8 rm r) :=
  ⟨(length_encRm8 _ _ _).1, (length_encRm8 _ _ _).2.trans (by decide)⟩

theorem movRm16R16 (rm : Rm Reg16) (r : Reg16) : Statement (.movRm16R16 rm r) :=
  ⟨(length_encRm16 _ _ _).1, (length_encRm16 _ _ _).2.trans (by decide)⟩

theorem movR8Rm8 (r : Reg8) (rm : Rm Reg8) : Statement (.movR8Rm8 r rm) :=
  ⟨(length_encRm8 _ _ _).1, (length_encRm8 _ _ _).2.trans (by decide)⟩

theorem movR16Rm16 (r : Reg16) (rm : Rm Reg16) : Statement (.movR16Rm16 r rm) :=
  ⟨(length_encRm16 _ _ _).1, (length_encRm16 _ _ _).2.trans (by decide)⟩

theorem movRm16Es (rm : Rm Reg16) : Statement (.movRm16Es rm) :=
  ⟨(length_encRm16 _ _ _).1, (length_encRm16 _ _ _).2.trans (by decide)⟩

theorem movRm16Cs (rm : Rm Reg16) : Statement (.movRm16Cs rm) :=
  ⟨(length_encRm16 _ _ _).1, (length_encRm16 _ _ _).2.trans (by decide)⟩

theorem movRm16Ss (rm : Rm Reg16) : Statement (.movRm16Ss rm) :=
  ⟨(length_encRm16 _ _ _).1, (length_encRm16 _ _ _).2.trans (by decide)⟩

theorem movRm16Ds (rm : Rm Reg16) : Statement (.movRm16Ds rm) :=
  ⟨(length_encRm16 _ _ _).1, (length_encRm16 _ _ _).2.trans (by decide)⟩

theorem leaR16M (r : Reg16) (m : MemEA) : Statement (.leaR16M r m) :=
  ⟨(length_encMem _ _ _).1, (length_encMem _ _ _).2.trans (by decide)⟩

theorem movEsRm16 (rm : Rm Reg16) : Statement (.movEsRm16 rm) :=
  ⟨(length_encRm16 _ _ _).1, (length_encRm16 _ _ _).2.trans (by decide)⟩

theorem movCsRm16 (rm : Rm Reg16) : Statement (.movCsRm16 rm) :=
  ⟨(length_encRm16 _ _ _).1, (length_encRm16 _ _ _).2.trans (by decide)⟩

theorem movSsRm16 (rm : Rm Reg16) : Statement (.movSsRm16 rm) :=
  ⟨(length_encRm16 _ _ _).1, (length_encRm16 _ _ _).2.trans (by decide)⟩

theorem movDsRm16 (rm : Rm Reg16) : Statement (.movDsRm16 rm) :=
  ⟨(length_encRm16 _ _ _).1, (length_encRm16 _ _ _).2.trans (by decide)⟩

theorem popRm16 (rm : Rm Reg16) : Statement (.popRm16 rm) :=
  ⟨(length_encRm16 _ _ _).1, (length_encRm16 _ _ _).2.trans (by decide)⟩

theorem callFarDirect (off : Word) (sel : Word) : Statement (.callFarDirect off sel) :=
  show 1 ≤ 5 ∧ 5 ≤ 6 by decide

theorem movAlMoffs8 (addr : Word) : Statement (.movAlMoffs8 addr) :=
  show 1 ≤ 3 ∧ 3 ≤ 6 by decide

theorem movAxMoffs16 (addr : Word) : Statement (.movAxMoffs16 addr) :=
  show 1 ≤ 3 ∧ 3 ≤ 6 by decide

theorem movMoffs8Al (addr : Word) : Statement (.movMoffs8Al addr) :=
  show 1 ≤ 3 ∧ 3 ≤ 6 by decide

theorem movMoffs16Ax (addr : Word) : Statement (.movMoffs16Ax addr) :=
  show 1 ≤ 3 ∧ 3 ≤ 6 by decide

theorem testAlImm8 (imm : Byte) : Statement (.testAlImm8 imm) :=
  show 1 ≤ 2 ∧ 2 ≤ 6 by decide

theorem testAxImm16 (imm : Word) : Statement (.testAxImm16 imm) :=
  show 1 ≤ 3 ∧ 3 ≤ 6 by decide

theorem movR8Imm8 (r : Reg8) (imm : Byte) : Statement (.movR8Imm8 r imm) :=
  show 1 ≤ 2 ∧ 2 ≤ 6 by decide

theorem movR16Imm16 (r : Reg16) (imm : Word) : Statement (.movR16Imm16 r imm) :=
  show 1 ≤ 3 ∧ 3 ≤ 6 by decide

theorem rolRm8Imm8 (rm : Rm Reg8) (imm : Byte) : Statement (.rolRm8Imm8 rm imm) :=
  withImm (length_encRm8 _ _ _) (show 1 ≤ 2 by decide)

theorem rorRm8Imm8 (rm : Rm Reg8) (imm : Byte) : Statement (.rorRm8Imm8 rm imm) :=
  withImm (length_encRm8 _ _ _) (show 1 ≤ 2 by decide)

theorem rclRm8Imm8 (rm : Rm Reg8) (imm : Byte) : Statement (.rclRm8Imm8 rm imm) :=
  withImm (length_encRm8 _ _ _) (show 1 ≤ 2 by decide)

theorem rcrRm8Imm8 (rm : Rm Reg8) (imm : Byte) : Statement (.rcrRm8Imm8 rm imm) :=
  withImm (length_encRm8 _ _ _) (show 1 ≤ 2 by decide)

theorem shlRm8Imm8 (rm : Rm Reg8) (imm : Byte) : Statement (.shlRm8Imm8 rm imm) :=
  withImm (length_encRm8 _ _ _) (show 1 ≤ 2 by decide)

theorem shrRm8Imm8 (rm : Rm Reg8) (imm : Byte) : Statement (.shrRm8Imm8 rm imm) :=
  withImm (length_encRm8 _ _ _) (show 1 ≤ 2 by decide)

theorem sarRm8Imm8 (rm : Rm Reg8) (imm : Byte) : Statement (.sarRm8Imm8 rm imm) :=
  withImm (length_encRm8 _ _ _) (show 1 ≤ 2 by decide)

theorem rolRm16Imm8 (rm : Rm Reg16) (imm : Byte) : Statement (.rolRm16Imm8 rm imm) :=
  withImm (length_encRm16 _ _ _) (show 1 ≤ 2 by decide)

theorem rorRm16Imm8 (rm : Rm Reg16) (imm : Byte) : Statement (.rorRm16Imm8 rm imm) :=
  withImm (length_encRm16 _ _ _) (show 1 ≤ 2 by decide)

theorem rclRm16Imm8 (rm : Rm Reg16) (imm : Byte) : Statement (.rclRm16Imm8 rm imm) :=
  withImm (length_encRm16 _ _ _) (show 1 ≤ 2 by decide)

theorem rcrRm16Imm8 (rm : Rm Reg16) (imm : Byte) : Statement (.rcrRm16Imm8 rm imm) :=
  withImm (length_encRm16 _ _ _) (show 1 ≤ 2 by decide)

theorem shlRm16Imm8 (rm : Rm Reg16) (imm : Byte) : Statement (.shlRm16Imm8 rm imm) :=
  withImm (length_encRm16 _ _ _) (show 1 ≤ 2 by decide)

theorem shrRm16Imm8 (rm : Rm Reg16) (imm : Byte) : Statement (.shrRm16Imm8 rm imm) :=
  withImm (length_encRm16 _ _ _) (show 1 ≤ 2 by decide)

theorem sarRm16Imm8 (rm : Rm Reg16) (imm : Byte) : Statement (.sarRm16Imm8 rm imm) :=
  withImm (length_encRm16 _ _ _) (show 1 ≤ 2 by decide)

theorem rolRm8By1 (rm : Rm Reg8) : Statement (.rolRm8By1 rm) :=
  ⟨(length_encRm8 _ _ _).1, (length_encRm8 _ _ _).2.trans (by decide)⟩

theorem rorRm8By1 (rm : Rm Reg8) : Statement (.rorRm8By1 rm) :=
  ⟨(length_encRm8 _ _ _).1, (length_encRm8 _ _ _).2.trans (by decide)⟩

theorem rclRm8By1 (rm : Rm Reg8) : Statement (.rclRm8By1 rm) :=
  ⟨(length_encRm8 _ _ _).1, (length_encRm8 _ _ _).2.trans (by decide)⟩

theorem rcrRm8By1 (rm : Rm Reg8) : Statement (.rcrRm8By1 rm) :=
  ⟨(length_encRm8 _ _ _).1, (length_encRm8 _ _ _).2.trans (by decide)⟩

theorem shlRm8By1 (rm : Rm Reg8) : Statement (.shlRm8By1 rm) :=
  ⟨(length_encRm8 _ _ _).1, (length_encRm8 _ _ _).2.trans (by decide)⟩

theorem shrRm8By1 (rm : Rm Reg8) : Statement (.shrRm8By1 rm) :=
  ⟨(length_encRm8 _ _ _).1, (length_encRm8 _ _ _).2.trans (by decide)⟩

theorem sarRm8By1 (rm : Rm Reg8) : Statement (.sarRm8By1 rm) :=
  ⟨(length_encRm8 _ _ _).1, (length_encRm8 _ _ _).2.trans (by decide)⟩

theorem rolRm16By1 (rm : Rm Reg16) : Statement (.rolRm16By1 rm) :=
  ⟨(length_encRm16 _ _ _).1, (length_encRm16 _ _ _).2.trans (by decide)⟩

theorem rorRm16By1 (rm : Rm Reg16) : Statement (.rorRm16By1 rm) :=
  ⟨(length_encRm16 _ _ _).1, (length_encRm16 _ _ _).2.trans (by decide)⟩

theorem rclRm16By1 (rm : Rm Reg16) : Statement (.rclRm16By1 rm) :=
  ⟨(length_encRm16 _ _ _).1, (length_encRm16 _ _ _).2.trans (by decide)⟩

theorem rcrRm16By1 (rm : Rm Reg16) : Statement (.rcrRm16By1 rm) :=
  ⟨(length_encRm16 _ _ _).1, (length_encRm16 _ _ _).2.trans (by decide)⟩

theorem shlRm16By1 (rm : Rm Reg16) : Statement (.shlRm16By1 rm) :=
  ⟨(length_encRm16 _ _ _).1, (length_encRm16 _ _ _).2.trans (by decide)⟩

theorem shrRm16By1 (rm : Rm Reg16) : Statement (.shrRm16By1 rm) :=
  ⟨(length_encRm16 _ _ _).1, (length_encRm16 _ _ _).2.trans (by decide)⟩

theorem sarRm16By1 (rm : Rm Reg16) : Statement (.sarRm16By1 rm) :=
  ⟨(length_encRm16 _ _ _).1, (length_encRm16 _ _ _).2.trans (by decide)⟩

theorem rolRm8Cl (rm : Rm Reg8) : Statement (.rolRm8Cl rm) :=
  ⟨(length_encRm8 _ _ _).1, (length_encRm8 _ _ _).2.trans (by decide)⟩

theorem rorRm8Cl (rm : Rm Reg8) : Statement (.rorRm8Cl rm) :=
  ⟨(length_encRm8 _ _ _).1, (length_encRm8 _ _ _).2.trans (by decide)⟩

theorem rclRm8Cl (rm : Rm Reg8) : Statement (.rclRm8Cl rm) :=
  ⟨(length_encRm8 _ _ _).1, (length_encRm8 _ _ _).2.trans (by decide)⟩

theorem rcrRm8Cl (rm : Rm Reg8) : Statement (.rcrRm8Cl rm) :=
  ⟨(length_encRm8 _ _ _).1, (length_encRm8 _ _ _).2.trans (by decide)⟩

theorem shlRm8Cl (rm : Rm Reg8) : Statement (.shlRm8Cl rm) :=
  ⟨(length_encRm8 _ _ _).1, (length_encRm8 _ _ _).2.trans (by decide)⟩

theorem shrRm8Cl (rm : Rm Reg8) : Statement (.shrRm8Cl rm) :=
  ⟨(length_encRm8 _ _ _).1, (length_encRm8 _ _ _).2.trans (by decide)⟩

theorem sarRm8Cl (rm : Rm Reg8) : Statement (.sarRm8Cl rm) :=
  ⟨(length_encRm8 _ _ _).1, (length_encRm8 _ _ _).2.trans (by decide)⟩

theorem rolRm16Cl (rm : Rm Reg16) : Statement (.rolRm16Cl rm) :=
  ⟨(length_encRm16 _ _ _).1, (length_encRm16 _ _ _).2.trans (by decide)⟩

theorem rorRm16Cl (rm : Rm Reg16) : Statement (.rorRm16Cl rm) :=
  ⟨(length_encRm16 _ _ _).1, (length_encRm16 _ _ _).2.trans (by decide)⟩

theorem rclRm16Cl (rm : Rm Reg16) : Statement (.rclRm16Cl rm) :=
  ⟨(length_encRm16 _ _ _).1, (length_encRm16 _ _ _).2.trans (by decide)⟩

theorem rcrRm16Cl (rm : Rm Reg16) : Statement (.rcrRm16Cl rm) :=
  ⟨(length_encRm16 _ _ _).1, (length_encRm16 _ _ _).2.trans (by decide)⟩

theorem shlRm16Cl (rm : Rm Reg16) : Statement (.shlRm16Cl rm) :=
  ⟨(length_encRm16 _ _ _).1, (length_encRm16 _ _ _).2.trans (by decide)⟩

theorem shrRm16Cl (rm : Rm Reg16) : Statement (.shrRm16Cl rm) :=
  ⟨(length_encRm16 _ _ _).1, (length_encRm16 _ _ _).2.trans (by decide)⟩

theorem sarRm16Cl (rm : Rm Reg16) : Statement (.sarRm16Cl rm) :=
  ⟨(length_encRm16 _ _ _).1, (length_encRm16 _ _ _).2.trans (by decide)⟩

theorem retImm16 (imm : Word) : Statement (.retImm16 imm) :=
  show 1 ≤ 3 ∧ 3 ≤ 6 by decide

theorem lesR16M (r : Reg16) (m : MemEA) : Statement (.lesR16M r m) :=
  ⟨(length_encMem _ _ _).1, (length_encMem _ _ _).2.trans (by decide)⟩

theorem ldsR16M (r : Reg16) (m : MemEA) : Statement (.ldsR16M r m) :=
  ⟨(length_encMem _ _ _).1, (length_encMem _ _ _).2.trans (by decide)⟩

theorem movRm8Imm8 (rm : Rm Reg8) (imm : Byte) : Statement (.movRm8Imm8 rm imm) :=
  withImm (length_encRm8 _ _ _) (show 1 ≤ 2 by decide)

theorem movRm16Imm16 (rm : Rm Reg16) (imm : Word) : Statement (.movRm16Imm16 rm imm) :=
  withImm (length_encRm16 _ _ _) (show 2 ≤ 2 by decide)

theorem enterImm16Imm8 (size : Word) (level : Byte) : Statement (.enterImm16Imm8 size level) :=
  show 1 ≤ 4 ∧ 4 ≤ 6 by decide

theorem retfImm16 (imm : Word) : Statement (.retfImm16 imm) :=
  show 1 ≤ 3 ∧ 3 ≤ 6 by decide

theorem intImm8 (imm : Byte) : Statement (.intImm8 imm) :=
  show 1 ≤ 2 ∧ 2 ≤ 6 by decide

theorem aamImm8 (imm : Byte) : Statement (.aamImm8 imm) :=
  show 1 ≤ 2 ∧ 2 ≤ 6 by decide

theorem aadImm8 (imm : Byte) : Statement (.aadImm8 imm) :=
  show 1 ≤ 2 ∧ 2 ≤ 6 by decide

theorem esc (n : BitVec 3) (g : BitVec 3) (rm : Rm Reg16) : Statement (.esc n g rm) :=
  ⟨(length_encRm16 _ _ _).1, (length_encRm16 _ _ _).2.trans (by decide)⟩

theorem loopneRel8 (rel : Byte) : Statement (.loopneRel8 rel) :=
  show 1 ≤ 2 ∧ 2 ≤ 6 by decide

theorem loopeRel8 (rel : Byte) : Statement (.loopeRel8 rel) :=
  show 1 ≤ 2 ∧ 2 ≤ 6 by decide

theorem loopRel8 (rel : Byte) : Statement (.loopRel8 rel) :=
  show 1 ≤ 2 ∧ 2 ≤ 6 by decide

theorem jcxzRel8 (rel : Byte) : Statement (.jcxzRel8 rel) :=
  show 1 ≤ 2 ∧ 2 ≤ 6 by decide

theorem inAlImm8 (imm : Byte) : Statement (.inAlImm8 imm) :=
  show 1 ≤ 2 ∧ 2 ≤ 6 by decide

theorem inAxImm8 (imm : Byte) : Statement (.inAxImm8 imm) :=
  show 1 ≤ 2 ∧ 2 ≤ 6 by decide

theorem outImm8Al (imm : Byte) : Statement (.outImm8Al imm) :=
  show 1 ≤ 2 ∧ 2 ≤ 6 by decide

theorem outImm8Ax (imm : Byte) : Statement (.outImm8Ax imm) :=
  show 1 ≤ 2 ∧ 2 ≤ 6 by decide

theorem callRel16 (rel : Word) : Statement (.callRel16 rel) :=
  show 1 ≤ 3 ∧ 3 ≤ 6 by decide

theorem jmpRel16 (rel : Word) : Statement (.jmpRel16 rel) :=
  show 1 ≤ 3 ∧ 3 ≤ 6 by decide

theorem jmpFarDirect (off : Word) (sel : Word) : Statement (.jmpFarDirect off sel) :=
  show 1 ≤ 5 ∧ 5 ≤ 6 by decide

theorem jmpRel8 (rel : Byte) : Statement (.jmpRel8 rel) :=
  show 1 ≤ 2 ∧ 2 ≤ 6 by decide

theorem testRm8Imm8 (rm : Rm Reg8) (imm : Byte) : Statement (.testRm8Imm8 rm imm) :=
  withImm (length_encRm8 _ _ _) (show 1 ≤ 2 by decide)

theorem notRm8 (rm : Rm Reg8) : Statement (.notRm8 rm) :=
  ⟨(length_encRm8 _ _ _).1, (length_encRm8 _ _ _).2.trans (by decide)⟩

theorem negRm8 (rm : Rm Reg8) : Statement (.negRm8 rm) :=
  ⟨(length_encRm8 _ _ _).1, (length_encRm8 _ _ _).2.trans (by decide)⟩

theorem mulRm8 (rm : Rm Reg8) : Statement (.mulRm8 rm) :=
  ⟨(length_encRm8 _ _ _).1, (length_encRm8 _ _ _).2.trans (by decide)⟩

theorem imulRm8 (rm : Rm Reg8) : Statement (.imulRm8 rm) :=
  ⟨(length_encRm8 _ _ _).1, (length_encRm8 _ _ _).2.trans (by decide)⟩

theorem divRm8 (rm : Rm Reg8) : Statement (.divRm8 rm) :=
  ⟨(length_encRm8 _ _ _).1, (length_encRm8 _ _ _).2.trans (by decide)⟩

theorem idivRm8 (rm : Rm Reg8) : Statement (.idivRm8 rm) :=
  ⟨(length_encRm8 _ _ _).1, (length_encRm8 _ _ _).2.trans (by decide)⟩

theorem testRm16Imm16 (rm : Rm Reg16) (imm : Word) : Statement (.testRm16Imm16 rm imm) :=
  withImm (length_encRm16 _ _ _) (show 2 ≤ 2 by decide)

theorem notRm16 (rm : Rm Reg16) : Statement (.notRm16 rm) :=
  ⟨(length_encRm16 _ _ _).1, (length_encRm16 _ _ _).2.trans (by decide)⟩

theorem negRm16 (rm : Rm Reg16) : Statement (.negRm16 rm) :=
  ⟨(length_encRm16 _ _ _).1, (length_encRm16 _ _ _).2.trans (by decide)⟩

theorem mulRm16 (rm : Rm Reg16) : Statement (.mulRm16 rm) :=
  ⟨(length_encRm16 _ _ _).1, (length_encRm16 _ _ _).2.trans (by decide)⟩

theorem imulRm16 (rm : Rm Reg16) : Statement (.imulRm16 rm) :=
  ⟨(length_encRm16 _ _ _).1, (length_encRm16 _ _ _).2.trans (by decide)⟩

theorem divRm16 (rm : Rm Reg16) : Statement (.divRm16 rm) :=
  ⟨(length_encRm16 _ _ _).1, (length_encRm16 _ _ _).2.trans (by decide)⟩

theorem idivRm16 (rm : Rm Reg16) : Statement (.idivRm16 rm) :=
  ⟨(length_encRm16 _ _ _).1, (length_encRm16 _ _ _).2.trans (by decide)⟩

theorem incRm8 (rm : Rm Reg8) : Statement (.incRm8 rm) :=
  ⟨(length_encRm8 _ _ _).1, (length_encRm8 _ _ _).2.trans (by decide)⟩

theorem decRm8 (rm : Rm Reg8) : Statement (.decRm8 rm) :=
  ⟨(length_encRm8 _ _ _).1, (length_encRm8 _ _ _).2.trans (by decide)⟩

theorem incRm16 (rm : Rm Reg16) : Statement (.incRm16 rm) :=
  ⟨(length_encRm16 _ _ _).1, (length_encRm16 _ _ _).2.trans (by decide)⟩

theorem decRm16 (rm : Rm Reg16) : Statement (.decRm16 rm) :=
  ⟨(length_encRm16 _ _ _).1, (length_encRm16 _ _ _).2.trans (by decide)⟩

theorem callRm16 (rm : Rm Reg16) : Statement (.callRm16 rm) :=
  ⟨(length_encRm16 _ _ _).1, (length_encRm16 _ _ _).2.trans (by decide)⟩

theorem callFarMem (m : MemEA) : Statement (.callFarMem m) :=
  ⟨(length_encMem _ _ _).1, (length_encMem _ _ _).2.trans (by decide)⟩

theorem jmpRm16 (rm : Rm Reg16) : Statement (.jmpRm16 rm) :=
  ⟨(length_encRm16 _ _ _).1, (length_encRm16 _ _ _).2.trans (by decide)⟩

theorem jmpFarMem (m : MemEA) : Statement (.jmpFarMem m) :=
  ⟨(length_encMem _ _ _).1, (length_encMem _ _ _).2.trans (by decide)⟩

theorem pushRm16 (rm : Rm Reg16) : Statement (.pushRm16 rm) :=
  ⟨(length_encRm16 _ _ _).1, (length_encRm16 _ _ _).2.trans (by decide)⟩

theorem pushEs : Statement .pushEs :=
  show 1 ≤ 1 ∧ 1 ≤ 6 by decide

theorem pushCs : Statement .pushCs :=
  show 1 ≤ 1 ∧ 1 ≤ 6 by decide

theorem pushSs : Statement .pushSs :=
  show 1 ≤ 1 ∧ 1 ≤ 6 by decide

theorem pushDs : Statement .pushDs :=
  show 1 ≤ 1 ∧ 1 ≤ 6 by decide

theorem popEs : Statement .popEs :=
  show 1 ≤ 1 ∧ 1 ≤ 6 by decide

theorem popSs : Statement .popSs :=
  show 1 ≤ 1 ∧ 1 ≤ 6 by decide

theorem popDs : Statement .popDs :=
  show 1 ≤ 1 ∧ 1 ≤ 6 by decide

theorem prefixEs : Statement .prefixEs :=
  show 1 ≤ 1 ∧ 1 ≤ 6 by decide

theorem prefixCs : Statement .prefixCs :=
  show 1 ≤ 1 ∧ 1 ≤ 6 by decide

theorem prefixSs : Statement .prefixSs :=
  show 1 ≤ 1 ∧ 1 ≤ 6 by decide

theorem prefixDs : Statement .prefixDs :=
  show 1 ≤ 1 ∧ 1 ≤ 6 by decide

theorem daa : Statement .daa :=
  show 1 ≤ 1 ∧ 1 ≤ 6 by decide

theorem das : Statement .das :=
  show 1 ≤ 1 ∧ 1 ≤ 6 by decide

theorem aaa : Statement .aaa :=
  show 1 ≤ 1 ∧ 1 ≤ 6 by decide

theorem aas : Statement .aas :=
  show 1 ≤ 1 ∧ 1 ≤ 6 by decide

theorem pusha : Statement .pusha :=
  show 1 ≤ 1 ∧ 1 ≤ 6 by decide

theorem popa : Statement .popa :=
  show 1 ≤ 1 ∧ 1 ≤ 6 by decide

theorem insb : Statement .insb :=
  show 1 ≤ 1 ∧ 1 ≤ 6 by decide

theorem insw : Statement .insw :=
  show 1 ≤ 1 ∧ 1 ≤ 6 by decide

theorem outsb : Statement .outsb :=
  show 1 ≤ 1 ∧ 1 ≤ 6 by decide

theorem outsw : Statement .outsw :=
  show 1 ≤ 1 ∧ 1 ≤ 6 by decide

theorem nop : Statement .nop :=
  show 1 ≤ 1 ∧ 1 ≤ 6 by decide

theorem xchgAxCx : Statement .xchgAxCx :=
  show 1 ≤ 1 ∧ 1 ≤ 6 by decide

theorem xchgAxDx : Statement .xchgAxDx :=
  show 1 ≤ 1 ∧ 1 ≤ 6 by decide

theorem xchgAxBx : Statement .xchgAxBx :=
  show 1 ≤ 1 ∧ 1 ≤ 6 by decide

theorem xchgAxSp : Statement .xchgAxSp :=
  show 1 ≤ 1 ∧ 1 ≤ 6 by decide

theorem xchgAxBp : Statement .xchgAxBp :=
  show 1 ≤ 1 ∧ 1 ≤ 6 by decide

theorem xchgAxSi : Statement .xchgAxSi :=
  show 1 ≤ 1 ∧ 1 ≤ 6 by decide

theorem xchgAxDi : Statement .xchgAxDi :=
  show 1 ≤ 1 ∧ 1 ≤ 6 by decide

theorem cbw : Statement .cbw :=
  show 1 ≤ 1 ∧ 1 ≤ 6 by decide

theorem cwd : Statement .cwd :=
  show 1 ≤ 1 ∧ 1 ≤ 6 by decide

theorem wait : Statement .wait :=
  show 1 ≤ 1 ∧ 1 ≤ 6 by decide

theorem pushf : Statement .pushf :=
  show 1 ≤ 1 ∧ 1 ≤ 6 by decide

theorem popf : Statement .popf :=
  show 1 ≤ 1 ∧ 1 ≤ 6 by decide

theorem sahf : Statement .sahf :=
  show 1 ≤ 1 ∧ 1 ≤ 6 by decide

theorem lahf : Statement .lahf :=
  show 1 ≤ 1 ∧ 1 ≤ 6 by decide

theorem movsb : Statement .movsb :=
  show 1 ≤ 1 ∧ 1 ≤ 6 by decide

theorem movsw : Statement .movsw :=
  show 1 ≤ 1 ∧ 1 ≤ 6 by decide

theorem cmpsb : Statement .cmpsb :=
  show 1 ≤ 1 ∧ 1 ≤ 6 by decide

theorem cmpsw : Statement .cmpsw :=
  show 1 ≤ 1 ∧ 1 ≤ 6 by decide

theorem stosb : Statement .stosb :=
  show 1 ≤ 1 ∧ 1 ≤ 6 by decide

theorem stosw : Statement .stosw :=
  show 1 ≤ 1 ∧ 1 ≤ 6 by decide

theorem lodsb : Statement .lodsb :=
  show 1 ≤ 1 ∧ 1 ≤ 6 by decide

theorem lodsw : Statement .lodsw :=
  show 1 ≤ 1 ∧ 1 ≤ 6 by decide

theorem scasb : Statement .scasb :=
  show 1 ≤ 1 ∧ 1 ≤ 6 by decide

theorem scasw : Statement .scasw :=
  show 1 ≤ 1 ∧ 1 ≤ 6 by decide

theorem ret : Statement .ret :=
  show 1 ≤ 1 ∧ 1 ≤ 6 by decide

theorem leave : Statement .leave :=
  show 1 ≤ 1 ∧ 1 ≤ 6 by decide

theorem retf : Statement .retf :=
  show 1 ≤ 1 ∧ 1 ≤ 6 by decide

theorem int3 : Statement .int3 :=
  show 1 ≤ 1 ∧ 1 ≤ 6 by decide

theorem into : Statement .into :=
  show 1 ≤ 1 ∧ 1 ≤ 6 by decide

theorem iret : Statement .iret :=
  show 1 ≤ 1 ∧ 1 ≤ 6 by decide

theorem xlat : Statement .xlat :=
  show 1 ≤ 1 ∧ 1 ≤ 6 by decide

theorem inAlDx : Statement .inAlDx :=
  show 1 ≤ 1 ∧ 1 ≤ 6 by decide

theorem inAxDx : Statement .inAxDx :=
  show 1 ≤ 1 ∧ 1 ≤ 6 by decide

theorem outDxAl : Statement .outDxAl :=
  show 1 ≤ 1 ∧ 1 ≤ 6 by decide

theorem outDxAx : Statement .outDxAx :=
  show 1 ≤ 1 ∧ 1 ≤ 6 by decide

theorem prefixLock : Statement .prefixLock :=
  show 1 ≤ 1 ∧ 1 ≤ 6 by decide

theorem prefixRepne : Statement .prefixRepne :=
  show 1 ≤ 1 ∧ 1 ≤ 6 by decide

theorem prefixRep : Statement .prefixRep :=
  show 1 ≤ 1 ∧ 1 ≤ 6 by decide

theorem hlt : Statement .hlt :=
  show 1 ≤ 1 ∧ 1 ≤ 6 by decide

theorem cmc : Statement .cmc :=
  show 1 ≤ 1 ∧ 1 ≤ 6 by decide

theorem clc : Statement .clc :=
  show 1 ≤ 1 ∧ 1 ≤ 6 by decide

theorem stc : Statement .stc :=
  show 1 ≤ 1 ∧ 1 ≤ 6 by decide

theorem cli : Statement .cli :=
  show 1 ≤ 1 ∧ 1 ≤ 6 by decide

theorem sti : Statement .sti :=
  show 1 ≤ 1 ∧ 1 ≤ 6 by decide

theorem cld : Statement .cld :=
  show 1 ≤ 1 ∧ 1 ≤ 6 by decide

theorem std : Statement .std :=
  show 1 ≤ 1 ∧ 1 ≤ 6 by decide

end Sys2Proof.Laws.EncodeLength
end

