-- ==== Sys2Proof/Tests/Slice0.lean ====
section
/-! SUPPORT. Tests: terms without an encoding, one word for every constructor written out from the spec's encoding, single
steps with the results the spec prints, and for every statement a state that meets its hypotheses. -/

set_option Elab.async false

namespace Sys2Proof.Tests

open Machine Claims

/-! ### Terms without an encoding -/

/-- `[BP]` without displacement has no encoding (30_encoding R195): byte, word and memory-only operands. -/
theorem test_wf_refuses_bp_alone :
    (Instr.addRm8R8 (.mem (.base .bp)) .al).wf = false ∧ (Instr.incRm16 (.mem (.base .bp))).wf = false ∧
      (Instr.leaR16M .ax (.base .bp)).wf = false ∧ (Instr.esc 0 0 (.mem (.base .bp))).wf = false := by
  decide

/-- `[BP+0]`, `[disp16]` and every other base have one. -/
theorem test_wf_admits :
    (Instr.addRm8R8 (.mem (.disp8 .bp 0)) .al).wf = true ∧ (Instr.incRm16 (.mem (.direct 0))).wf = true ∧
      (Instr.leaR16M .ax (.base .bx)).wf = true ∧ Instr.nop.wf = true := by
  decide

/-! ### Decoding

The bytes are written from the tables of spec 30_encoding: opcode, ModRM byte as mod, reg, rm in binary, displacement and
immediate low byte first. -/

/-- Every byte list decodes to its instruction and leaves nothing. -/
def decodesTo (l : List (List Byte × Instr)) : Bool :=
  l.all fun p =>
    match decode p.1 with
    | .ok (i, []) => decide (i = p.2)
    | _ => false

theorem test_decode_arith :
    (decodesTo
      [([0x00, 0b00000000], .addRm8R8 (.mem (.base .bxSi)) .al),
        ([0x01, 0b00011101], .addRm16R16 (.mem (.base .di)) .bx),
        ([0x02, 0b01110010, 0xFE], .addR8Rm8 .dh (.mem (.disp8 .bpSi 0xFE))),
        ([0x03, 0b11010001], .addR16Rm16 .dx (.reg .cx)),
        ([0x04, 0x9A], .addAlImm8 0x9A),
        ([0x05, 0x78, 0x56], .addAxImm16 0x5678),
        ([0x10, 0b10101100, 0xCD, 0xAB], .adcRm8R8 (.mem (.disp16 .si 0xABCD)) .ch),
        ([0x11, 0b00000001], .adcRm16R16 (.mem (.base .bxDi)) .ax),
        ([0x12, 0b00011110, 0x34, 0x12], .adcR8Rm8 .bl (.mem (.direct 0x1234))),
        ([0x13, 0b11110101], .adcR16Rm16 .si (.reg .bp)),
        ([0x14, 0x9A], .adcAlImm8 0x9A),
        ([0x15, 0x78, 0x56], .adcAxImm16 0x5678)] &&
      decodesTo
      [([0x18, 0b10001000, 0xCD, 0xAB], .sbbRm8R8 (.mem (.disp16 .bxSi 0xABCD)) .cl),
        ([0x19, 0b10100101, 0xCD, 0xAB], .sbbRm16R16 (.mem (.disp16 .di 0xABCD)) .sp),
        ([0x1A, 0b00111010], .sbbR8Rm8 .bh (.mem (.base .bpSi))),
        ([0x1B, 0b11010001], .sbbR16Rm16 .dx (.reg .cx)),
        ([0x1C, 0x9A], .sbbAlImm8 0x9A),
        ([0x1D, 0x78, 0x56], .sbbAxImm16 0x5678),
        ([0x28, 0b01101100, 0xFE], .subRm8R8 (.mem (.disp8 .si 0xFE)) .ch),
        ([0x29, 0b10000001, 0xCD, 0xAB], .subRm16R16 (.mem (.disp16 .bxDi 0xABCD)) .ax),
        ([0x2A, 0b10011110, 0xCD, 0xAB], .subR8Rm8 .bl (.mem (.disp16 .bp 0xABCD))),
        ([0x2B, 0b11110101], .subR16Rm16 .si (.reg .bp)),
        ([0x2C, 0x9A], .subAlImm8 0x9A),
        ([0x2D, 0x78, 0x56], .subAxImm16 0x5678)] &&
      decodesTo
      [([0x38, 0b01001000, 0xFE], .cmpRm8R8 (.mem (.disp8 .bxSi 0xFE)) .cl),
        ([0x39, 0b01100101, 0xFE], .cmpRm16R16 (.mem (.disp8 .di 0xFE)) .sp),
        ([0x3A, 0b10111010, 0xCD, 0xAB], .cmpR8Rm8 .bh (.mem (.disp16 .bpSi 0xABCD))),
        ([0x3B, 0b11010001], .cmpR16Rm16 .dx (.reg .cx)),
        ([0x3C, 0x9A], .cmpAlImm8 0x9A),
        ([0x3D, 0x78, 0x56], .cmpAxImm16 0x5678),
        ([0x45], .incR16 .bp),
        ([0x48], .decR16 .ax),
        ([0x80, 0b00000100, 0x9A], .addRm8Imm8 (.mem (.base .si)) 0x9A),
        ([0x80, 0b01010001, 0xFE, 0x9A], .adcRm8Imm8 (.mem (.disp8 .bxDi 0xFE)) 0x9A),
        ([0x80, 0b01011110, 0xFE, 0x9A], .sbbRm8Imm8 (.mem (.disp8 .bp 0xFE)) 0x9A),
        ([0x80, 0b11101101, 0x9A], .subRm8Imm8 (.reg .ch) 0x9A)] &&
      decodesTo
      [([0x80, 0b00111000, 0x9A], .cmpRm8Imm8 (.mem (.base .bxSi)) 0x9A),
        ([0x81, 0b00000101, 0x78, 0x56], .addRm16Imm16 (.mem (.base .di)) 0x5678),
        ([0x81, 0b01010010, 0xFE, 0x78, 0x56], .adcRm16Imm16 (.mem (.disp8 .bpSi 0xFE)) 0x5678),
        ([0x81, 0b11011001, 0x78, 0x56], .sbbRm16Imm16 (.reg .cx) 0x5678),
        ([0x81, 0b10101100, 0xCD, 0xAB, 0x78, 0x56], .subRm16Imm16 (.mem (.disp16 .si 0xABCD)) 0x5678),
        ([0x81, 0b00111001, 0x78, 0x56], .cmpRm16Imm16 (.mem (.base .bxDi)) 0x5678),
        ([0x82, 0b00000110, 0x34, 0x12, 0x9A], .addRm8Imm8Op82 (.mem (.direct 0x1234)) 0x9A),
        ([0x82, 0b11010101, 0x9A], .adcRm8Imm8Op82 (.reg .ch) 0x9A),
        ([0x82, 0b10011000, 0xCD, 0xAB, 0x9A], .sbbRm8Imm8Op82 (.mem (.disp16 .bxSi 0xABCD)) 0x9A),
        ([0x82, 0b10101101, 0xCD, 0xAB, 0x9A], .subRm8Imm8Op82 (.mem (.disp16 .di 0xABCD)) 0x9A),
        ([0x82, 0b00111010, 0x9A], .cmpRm8Imm8Op82 (.mem (.base .bpSi)) 0x9A),
        ([0x83, 0b11000001, 0x9A], .addRm16Imm8s (.reg .cx) 0x9A)] &&
      decodesTo
      [([0x83, 0b01010100, 0xFE, 0x9A], .adcRm16Imm8s (.mem (.disp8 .si 0xFE)) 0x9A),
        ([0x83, 0b10011001, 0xCD, 0xAB, 0x9A], .sbbRm16Imm8s (.mem (.disp16 .bxDi 0xABCD)) 0x9A),
        ([0x83, 0b10101110, 0xCD, 0xAB, 0x9A], .subRm16Imm8s (.mem (.disp16 .bp 0xABCD)) 0x9A),
        ([0x83, 0b11111101, 0x9A], .cmpRm16Imm8s (.reg .bp) 0x9A),
        ([0xF6, 0b01011000, 0xFE], .negRm8 (.mem (.disp8 .bxSi 0xFE))),
        ([0xF7, 0b01011101, 0xFE], .negRm16 (.mem (.disp8 .di 0xFE))),
        ([0xFE, 0b10000010, 0xCD, 0xAB], .incRm8 (.mem (.disp16 .bpSi 0xABCD))),
        ([0xFE, 0b11001001], .decRm8 (.reg .cl)),
        ([0xFF, 0b00000100], .incRm16 (.mem (.base .si))),
        ([0xFF, 0b01001001, 0xFE], .decRm16 (.mem (.disp8 .bxDi 0xFE)))]) = true := by
  decide +kernel

theorem test_decode_logic :
    (decodesTo
      [([0x08, 0b01011110, 0xFE], .orRm8R8 (.mem (.disp8 .bp 0xFE)) .bl),
        ([0x09, 0b11110101], .orRm16R16 (.reg .bp) .si),
        ([0x0A, 0b00001000], .orR8Rm8 .cl (.mem (.base .bxSi))),
        ([0x0B, 0b00100101], .orR16Rm16 .sp (.mem (.base .di))),
        ([0x0C, 0x9A], .orAlImm8 0x9A),
        ([0x0D, 0x78, 0x56], .orAxImm16 0x5678),
        ([0x20, 0b01111010, 0xFE], .andRm8R8 (.mem (.disp8 .bpSi 0xFE)) .bh),
        ([0x21, 0b11010001], .andRm16R16 (.reg .cx) .dx),
        ([0x22, 0b10101100, 0xCD, 0xAB], .andR8Rm8 .ch (.mem (.disp16 .si 0xABCD))),
        ([0x23, 0b00000001], .andR16Rm16 .ax (.mem (.base .bxDi))),
        ([0x24, 0x9A], .andAlImm8 0x9A),
        ([0x25, 0x78, 0x56], .andAxImm16 0x5678)] &&
      decodesTo
      [([0x30, 0b00011110, 0x34, 0x12], .xorRm8R8 (.mem (.direct 0x1234)) .bl),
        ([0x31, 0b11110101], .xorRm16R16 (.reg .bp) .si),
        ([0x32, 0b10001000, 0xCD, 0xAB], .xorR8Rm8 .cl (.mem (.disp16 .bxSi 0xABCD))),
        ([0x33, 0b10100101, 0xCD, 0xAB], .xorR16Rm16 .sp (.mem (.disp16 .di 0xABCD))),
        ([0x34, 0x9A], .xorAlImm8 0x9A),
        ([0x35, 0x78, 0x56], .xorAxImm16 0x5678),
        ([0x80, 0b00001010, 0x9A], .orRm8Imm8 (.mem (.base .bpSi)) 0x9A),
        ([0x80, 0b11100001, 0x9A], .andRm8Imm8 (.reg .cl) 0x9A),
        ([0x80, 0b01110100, 0xFE, 0x9A], .xorRm8Imm8 (.mem (.disp8 .si 0xFE)) 0x9A),
        ([0x81, 0b10001001, 0xCD, 0xAB, 0x78, 0x56], .orRm16Imm16 (.mem (.disp16 .bxDi 0xABCD)) 0x5678),
        ([0x81, 0b10100110, 0xCD, 0xAB, 0x78, 0x56], .andRm16Imm16 (.mem (.disp16 .bp 0xABCD)) 0x5678),
        ([0x81, 0b11110101, 0x78, 0x56], .xorRm16Imm16 (.reg .bp) 0x5678)] &&
      decodesTo
      [([0x82, 0b01001000, 0xFE, 0x9A], .orRm8Imm8Op82 (.mem (.disp8 .bxSi 0xFE)) 0x9A),
        ([0x82, 0b01100101, 0xFE, 0x9A], .andRm8Imm8Op82 (.mem (.disp8 .di 0xFE)) 0x9A),
        ([0x82, 0b10110010, 0xCD, 0xAB, 0x9A], .xorRm8Imm8Op82 (.mem (.disp16 .bpSi 0xABCD)) 0x9A),
        ([0x83, 0b11001001, 0x9A], .orRm16Imm8s (.reg .cx) 0x9A),
        ([0x83, 0b00100100, 0x9A], .andRm16Imm8s (.mem (.base .si)) 0x9A),
        ([0x83, 0b01110001, 0xFE, 0x9A], .xorRm16Imm8s (.mem (.disp8 .bxDi 0xFE)) 0x9A),
        ([0x84, 0b01111110, 0xFE], .testRm8R8 (.mem (.disp8 .bp 0xFE)) .bh),
        ([0x85, 0b11010101], .testRm16R16 (.reg .bp) .dx),
        ([0xA8, 0x9A], .testAlImm8 0x9A),
        ([0xA9, 0x78, 0x56], .testAxImm16 0x5678),
        ([0xF6, 0b00000000, 0x9A], .testRm8Imm8 (.mem (.base .bxSi)) 0x9A),
        ([0xF6, 0b00010101], .notRm8 (.mem (.base .di)))] &&
      decodesTo
      [([0xF7, 0b01000010, 0xFE, 0x78, 0x56], .testRm16Imm16 (.mem (.disp8 .bpSi 0xFE)) 0x5678),
        ([0xF7, 0b11010001], .notRm16 (.reg .cx))]) = true := by
  decide +kernel

theorem test_decode_stack :
    (decodesTo
      [([0x55], .pushR16 .bp),
        ([0x58], .popR16 .ax),
        ([0x68, 0x78, 0x56], .pushImm16 0x5678),
        ([0x6A, 0x9A], .pushImm8s 0x9A),
        ([0x8F, 0b10000100, 0xCD, 0xAB], .popRm16 (.mem (.disp16 .si 0xABCD))),
        ([0xC8, 0x78, 0x56, 0x9A], .enterImm16Imm8 0x5678 0x9A),
        ([0xFF, 0b00110001], .pushRm16 (.mem (.base .bxDi))),
        ([0x06], .pushEs),
        ([0x0E], .pushCs),
        ([0x16], .pushSs),
        ([0x1E], .pushDs),
        ([0x07], .popEs)] &&
      decodesTo
      [([0x17], .popSs),
        ([0x1F], .popDs),
        ([0x60], .pusha),
        ([0x61], .popa),
        ([0xC9], .leave)]) = true := by
  decide +kernel

theorem test_decode_control :
    (decodesTo
      [([0x62, 0b10011010, 0xCD, 0xAB], .boundR16M .bx (.disp16 .bpSi 0xABCD)),
        ([0x70, 0x9A], .joRel8 0x9A),
        ([0x71, 0x9A], .jnoRel8 0x9A),
        ([0x72, 0x9A], .jbRel8 0x9A),
        ([0x73, 0x9A], .jaeRel8 0x9A),
        ([0x74, 0x9A], .jeRel8 0x9A),
        ([0x75, 0x9A], .jneRel8 0x9A),
        ([0x76, 0x9A], .jbeRel8 0x9A),
        ([0x77, 0x9A], .jaRel8 0x9A),
        ([0x78, 0x9A], .jsRel8 0x9A),
        ([0x79, 0x9A], .jnsRel8 0x9A),
        ([0x7A, 0x9A], .jpRel8 0x9A)] &&
      decodesTo
      [([0x7B, 0x9A], .jnpRel8 0x9A),
        ([0x7C, 0x9A], .jlRel8 0x9A),
        ([0x7D, 0x9A], .jgeRel8 0x9A),
        ([0x7E, 0x9A], .jleRel8 0x9A),
        ([0x7F, 0x9A], .jgRel8 0x9A),
        ([0x9A, 0x78, 0x56, 0x01, 0x23], .callFarDirect 0x5678 0x2301),
        ([0xC2, 0x78, 0x56], .retImm16 0x5678),
        ([0xCA, 0x78, 0x56], .retfImm16 0x5678),
        ([0xCD, 0x9A], .intImm8 0x9A),
        ([0xE0, 0x9A], .loopneRel8 0x9A),
        ([0xE1, 0x9A], .loopeRel8 0x9A),
        ([0xE2, 0x9A], .loopRel8 0x9A)] &&
      decodesTo
      [([0xE3, 0x9A], .jcxzRel8 0x9A),
        ([0xE8, 0x78, 0x56], .callRel16 0x5678),
        ([0xE9, 0x78, 0x56], .jmpRel16 0x5678),
        ([0xEA, 0x78, 0x56, 0x01, 0x23], .jmpFarDirect 0x5678 0x2301),
        ([0xEB, 0x9A], .jmpRel8 0x9A),
        ([0xFF, 0b11010101], .callRm16 (.reg .bp)),
        ([0xFF, 0b01011000, 0xFE], .callFarMem (.disp8 .bxSi 0xFE)),
        ([0xFF, 0b10100101, 0xCD, 0xAB], .jmpRm16 (.mem (.disp16 .di 0xABCD))),
        ([0xFF, 0b10101110, 0xCD, 0xAB], .jmpFarMem (.disp16 .bp 0xABCD)),
        ([0xC3], .ret),
        ([0xCB], .retf),
        ([0xCC], .int3)] &&
      decodesTo
      [([0xCE], .into),
        ([0xCF], .iret)]) = true := by
  decide +kernel

theorem test_decode_muldiv :
    (decodesTo
      [([0x69, 0b11110001, 0x78, 0x56], .imulR16Rm16Imm16 .si (.reg .cx) 0x5678),
        ([0x6B, 0b01001100, 0xFE, 0x9A], .imulR16Rm16Imm8s .cx (.mem (.disp8 .si 0xFE)) 0x9A),
        ([0xF6, 0b10100001, 0xCD, 0xAB], .mulRm8 (.mem (.disp16 .bxDi 0xABCD))),
        ([0xF6, 0b10101110, 0xCD, 0xAB], .imulRm8 (.mem (.disp16 .bp 0xABCD))),
        ([0xF6, 0b11110101], .divRm8 (.reg .ch)),
        ([0xF6, 0b01111000, 0xFE], .idivRm8 (.mem (.disp8 .bxSi 0xFE))),
        ([0xF7, 0b01100101, 0xFE], .mulRm16 (.mem (.disp8 .di 0xFE))),
        ([0xF7, 0b10101010, 0xCD, 0xAB], .imulRm16 (.mem (.disp16 .bpSi 0xABCD))),
        ([0xF7, 0b11110001], .divRm16 (.reg .cx)),
        ([0xF7, 0b00111100], .idivRm16 (.mem (.base .si)))]) = true := by
  decide +kernel

theorem test_decode_moves :
    (decodesTo
      [([0x86, 0b01100001, 0xFE], .xchgRm8R8 (.mem (.disp8 .bxDi 0xFE)) .ah),
        ([0x87, 0b01111110, 0xFE], .xchgRm16R16 (.mem (.disp8 .bp 0xFE)) .di),
        ([0x88, 0b11010101], .movRm8R8 (.reg .ch) .dl),
        ([0x89, 0b00101000], .movRm16R16 (.mem (.base .bxSi)) .bp),
        ([0x8A, 0b00000101], .movR8Rm8 .al (.mem (.base .di))),
        ([0x8B, 0b01011010, 0xFE], .movR16Rm16 .bx (.mem (.disp8 .bpSi 0xFE))),
        ([0x8C, 0b11000001], .movRm16Es (.reg .cx)),
        ([0x8C, 0b10001100, 0xCD, 0xAB], .movRm16Cs (.mem (.disp16 .si 0xABCD))),
        ([0x8C, 0b00010001], .movRm16Ss (.mem (.base .bxDi))),
        ([0x8C, 0b00011110, 0x34, 0x12], .movRm16Ds (.mem (.direct 0x1234))),
        ([0x8D, 0b00110001], .leaR16M .si (.base .bxDi)),
        ([0x8E, 0b10000000, 0xCD, 0xAB], .movEsRm16 (.mem (.disp16 .bxSi 0xABCD)))] &&
      decodesTo
      [([0x8E, 0b10001101, 0xCD, 0xAB], .movCsRm16 (.mem (.disp16 .di 0xABCD))),
        ([0x8E, 0b00010010], .movSsRm16 (.mem (.base .bpSi))),
        ([0x8E, 0b11011001], .movDsRm16 (.reg .cx)),
        ([0xA0, 0x78, 0x56], .movAlMoffs8 0x5678),
        ([0xA1, 0x78, 0x56], .movAxMoffs16 0x5678),
        ([0xA2, 0x78, 0x56], .movMoffs8Al 0x5678),
        ([0xA3, 0x78, 0x56], .movMoffs16Ax 0x5678),
        ([0xB1, 0x9A], .movR8Imm8 .cl 0x9A),
        ([0xBC, 0x78, 0x56], .movR16Imm16 .sp 0x5678),
        ([0xC4, 0b01111100, 0xFE], .lesR16M .di (.disp8 .si 0xFE)),
        ([0xC5, 0b10010011, 0xCD, 0xAB], .ldsR16M .dx (.disp16 .bpDi 0xABCD)),
        ([0xC6, 0b10000110, 0xCD, 0xAB, 0x9A], .movRm8Imm8 (.mem (.disp16 .bp 0xABCD)) 0x9A)] &&
      decodesTo
      [([0xC7, 0b11000101, 0x78, 0x56], .movRm16Imm16 (.reg .bp) 0x5678),
        ([0xE4, 0x9A], .inAlImm8 0x9A),
        ([0xE5, 0x9A], .inAxImm8 0x9A),
        ([0xE6, 0x9A], .outImm8Al 0x9A),
        ([0xE7, 0x9A], .outImm8Ax 0x9A),
        ([0x91], .xchgAxCx),
        ([0x92], .xchgAxDx),
        ([0x93], .xchgAxBx),
        ([0x94], .xchgAxSp),
        ([0x95], .xchgAxBp),
        ([0x96], .xchgAxSi),
        ([0x97], .xchgAxDi)] &&
      decodesTo
      [([0x98], .cbw),
        ([0x99], .cwd),
        ([0xD7], .xlat),
        ([0xEC], .inAlDx),
        ([0xED], .inAxDx),
        ([0xEE], .outDxAl),
        ([0xEF], .outDxAx)]) = true := by
  decide +kernel

theorem test_decode_rotate :
    (decodesTo
      [([0xC0, 0b01000000, 0xFE, 0x9A], .rolRm8Imm8 (.mem (.disp8 .bxSi 0xFE)) 0x9A),
        ([0xC0, 0b01001101, 0xFE, 0x9A], .rorRm8Imm8 (.mem (.disp8 .di 0xFE)) 0x9A),
        ([0xC0, 0b10010010, 0xCD, 0xAB, 0x9A], .rclRm8Imm8 (.mem (.disp16 .bpSi 0xABCD)) 0x9A),
        ([0xC0, 0b11011001, 0x9A], .rcrRm8Imm8 (.reg .cl) 0x9A),
        ([0xC1, 0b00000100, 0x9A], .rolRm16Imm8 (.mem (.base .si)) 0x9A),
        ([0xC1, 0b01001001, 0xFE, 0x9A], .rorRm16Imm8 (.mem (.disp8 .bxDi 0xFE)) 0x9A),
        ([0xC1, 0b01010110, 0xFE, 0x9A], .rclRm16Imm8 (.mem (.disp8 .bp 0xFE)) 0x9A),
        ([0xC1, 0b11011101, 0x9A], .rcrRm16Imm8 (.reg .bp) 0x9A),
        ([0xD0, 0b00000000], .rolRm8By1 (.mem (.base .bxSi))),
        ([0xD0, 0b00001101], .rorRm8By1 (.mem (.base .di))),
        ([0xD0, 0b01010010, 0xFE], .rclRm8By1 (.mem (.disp8 .bpSi 0xFE))),
        ([0xD0, 0b11011001], .rcrRm8By1 (.reg .cl))] &&
      decodesTo
      [([0xD1, 0b10000100, 0xCD, 0xAB], .rolRm16By1 (.mem (.disp16 .si 0xABCD))),
        ([0xD1, 0b00001001], .rorRm16By1 (.mem (.base .bxDi))),
        ([0xD1, 0b00010110, 0x34, 0x12], .rclRm16By1 (.mem (.direct 0x1234))),
        ([0xD1, 0b11011101], .rcrRm16By1 (.reg .bp)),
        ([0xD2, 0b10000000, 0xCD, 0xAB], .rolRm8Cl (.mem (.disp16 .bxSi 0xABCD))),
        ([0xD2, 0b10001101, 0xCD, 0xAB], .rorRm8Cl (.mem (.disp16 .di 0xABCD))),
        ([0xD2, 0b00010010], .rclRm8Cl (.mem (.base .bpSi))),
        ([0xD2, 0b11011001], .rcrRm8Cl (.reg .cl)),
        ([0xD3, 0b01000100, 0xFE], .rolRm16Cl (.mem (.disp8 .si 0xFE))),
        ([0xD3, 0b10001001, 0xCD, 0xAB], .rorRm16Cl (.mem (.disp16 .bxDi 0xABCD))),
        ([0xD3, 0b10010110, 0xCD, 0xAB], .rclRm16Cl (.mem (.disp16 .bp 0xABCD))),
        ([0xD3, 0b11011101], .rcrRm16Cl (.reg .bp))]) = true := by
  decide +kernel

theorem test_decode_shift :
    (decodesTo
      [([0xC0, 0b01100000, 0xFE, 0x9A], .shlRm8Imm8 (.mem (.disp8 .bxSi 0xFE)) 0x9A),
        ([0xC0, 0b01101101, 0xFE, 0x9A], .shrRm8Imm8 (.mem (.disp8 .di 0xFE)) 0x9A),
        ([0xC0, 0b10111010, 0xCD, 0xAB, 0x9A], .sarRm8Imm8 (.mem (.disp16 .bpSi 0xABCD)) 0x9A),
        ([0xC1, 0b11100001, 0x9A], .shlRm16Imm8 (.reg .cx) 0x9A),
        ([0xC1, 0b00101100, 0x9A], .shrRm16Imm8 (.mem (.base .si)) 0x9A),
        ([0xC1, 0b01111001, 0xFE, 0x9A], .sarRm16Imm8 (.mem (.disp8 .bxDi 0xFE)) 0x9A),
        ([0xD0, 0b01100110, 0xFE], .shlRm8By1 (.mem (.disp8 .bp 0xFE))),
        ([0xD0, 0b11101101], .shrRm8By1 (.reg .ch)),
        ([0xD0, 0b00111000], .sarRm8By1 (.mem (.base .bxSi))),
        ([0xD1, 0b00100101], .shlRm16By1 (.mem (.base .di))),
        ([0xD1, 0b01101010, 0xFE], .shrRm16By1 (.mem (.disp8 .bpSi 0xFE))),
        ([0xD1, 0b11111001], .sarRm16By1 (.reg .cx))] &&
      decodesTo
      [([0xD2, 0b10100100, 0xCD, 0xAB], .shlRm8Cl (.mem (.disp16 .si 0xABCD))),
        ([0xD2, 0b00101001], .shrRm8Cl (.mem (.base .bxDi))),
        ([0xD2, 0b00111110, 0x34, 0x12], .sarRm8Cl (.mem (.direct 0x1234))),
        ([0xD3, 0b11100101], .shlRm16Cl (.reg .bp)),
        ([0xD3, 0b10101000, 0xCD, 0xAB], .shrRm16Cl (.mem (.disp16 .bxSi 0xABCD))),
        ([0xD3, 0b10111101, 0xCD, 0xAB], .sarRm16Cl (.mem (.disp16 .di 0xABCD)))]) = true := by
  decide +kernel

theorem test_decode_decimal :
    (decodesTo
      [([0xD4, 0x9A], .aamImm8 0x9A),
        ([0xD5, 0x9A], .aadImm8 0x9A),
        ([0x27], .daa),
        ([0x2F], .das),
        ([0x37], .aaa),
        ([0x3F], .aas)]) = true := by
  decide +kernel

theorem test_decode_system :
    (decodesTo
      [([0xDD, 0b00110010], .esc 5 6 (.mem (.base .bpSi))),
        ([0x26], .prefixEs),
        ([0x2E], .prefixCs),
        ([0x36], .prefixSs),
        ([0x3E], .prefixDs),
        ([0x90], .nop),
        ([0x9B], .wait),
        ([0xF0], .prefixLock),
        ([0xF2], .prefixRepne),
        ([0xF3], .prefixRep),
        ([0xF4], .hlt)]) = true := by
  decide +kernel

theorem test_decode_strings :
    (decodesTo
      [([0x6C], .insb),
        ([0x6D], .insw),
        ([0x6E], .outsb),
        ([0x6F], .outsw),
        ([0xA4], .movsb),
        ([0xA5], .movsw),
        ([0xA6], .cmpsb),
        ([0xA7], .cmpsw),
        ([0xAA], .stosb),
        ([0xAB], .stosw),
        ([0xAC], .lodsb),
        ([0xAD], .lodsw)] &&
      decodesTo
      [([0xAE], .scasb),
        ([0xAF], .scasw)]) = true := by
  decide +kernel

theorem test_decode_flags :
    (decodesTo
      [([0x9C], .pushf),
        ([0x9D], .popf),
        ([0x9E], .sahf),
        ([0x9F], .lahf),
        ([0xF5], .cmc),
        ([0xF8], .clc),
        ([0xF9], .stc),
        ([0xFA], .cli),
        ([0xFB], .sti),
        ([0xFC], .cld),
        ([0xFD], .std)]) = true := by
  decide +kernel

/-- The eight opcodes without a row and an invalid cell of each group are refused by name (30_encoding R199, R220). -/
theorem test_decode_refuses :
    ([[0x0F], [0x63], [0x64], [0x65], [0x66], [0x67], [0xD6], [0xF1], [0xFE, 0b00111000], [0xFF, 0b00111000],
        [0xF6, 0b00001000], [0xC0, 0b00110000], [0xD3, 0b00110000], [0x8F, 0b00001000], [0xC6, 0b00001000],
        [0xC7, 0b00001000], [0x8C, 0b00100000], [0x8E, 0b00100000], [0x8D, 0b11000000], [0xC4, 0b11000000],
        [0xC5, 0b11000000], [0x62, 0b11000000], [0xFF, 0b11011000], [0xFF, 0b11101000]] : List (List Byte)).all
      (fun b => match decode (b ++ [0, 0, 0, 0]) with | .ok _ => false | .error _ => true) = true := by
  decide +kernel

/-- The table's numbering: the opcode byte is the high one (30_encoding R240). -/
theorem test_table_word :
    decodeTableWord 16 0x00D8 = some (.addRm8R8 (.reg .al) .bl) ∧ decodeTableWord 16 0x9000 = some .nop ∧
      decodeTableWord 16 0x0F00 = none := by
  decide +kernel

/-! ### Single steps

S0, the code bytes and the results are those of spec/95_test_vectors.md sections 2.8 to 2.14, the number of the row in the
name; every draw the rows could show is left out. -/

/-- The start state S0 of spec/95_test_vectors.md. -/
def S0 : State :=
  { State.reset with
    regs := ⟨0x1234, 0x0003, 0x5678, 0x0200, 0x0100, 0x0080, 0x0010, 0x0020⟩
    sregs := ⟨0x3000, 0x1000, 0x4000, 0x2000⟩
    ip := 0x0100 }

/-- A state with code bytes at its CS:IP. -/
def withCode (code : List Byte) (s : State) : State := placeBytes s.sregs.cs s.ip code s

/-- The step from `s` goes to `x`: registers, IP, the image of the flags, memory, ports and the loop's latches. -/
def stepsTo (s x : State) (flags : Word) : Bool :=
  match step s with
  | .next t =>
    decide (t.regs = x.regs) && decide (t.sregs = x.sregs) && decide (t.ip = x.ip) && decide (t.mem = x.mem) &&
      decide (flagsImage16 t.params t.fe = flags) && decide (t.ports.outputs = x.ports.outputs) &&
      decide (t.halted = x.halted) && decide (t.pending = x.pending) && decide (t.fatal.isSome = x.fatal.isSome)
  | _ => false

/-- Row 1: ``STC``. -/
theorem test_row1_stc :
    let s := withCode [0xF9] S0
    stepsTo s (s |>.setIP 0x0101) 0x0003 = true := by
  decide +kernel

/-- Row 3: ``CMC``. -/
theorem test_row3_cmc :
    let s := withCode [0xF5] ({ S0 with fe := { S0.fe with cf := true } })
    stepsTo s (s |>.setIP 0x0101) 0x0002 = true := by
  decide +kernel

/-- Row 4: ``STI``. -/
theorem test_row4_sti :
    let s := withCode [0xFB] S0
    stepsTo s (s |>.setIP 0x0101) 0x0202 = true := by
  decide +kernel

/-- Row 7: ``CLD``. -/
theorem test_row7_cld :
    let s := withCode [0xFC] ({ S0 with fe := { S0.fe with df := true } })
    stepsTo s (s |>.setIP 0x0101) 0x0002 = true := by
  decide +kernel

/-- Row 8: ``LAHF``. -/
theorem test_row8_lahf :
    let s := withCode [0x9F] ({ ({  ({   S0 with fe := {   S0.fe with cf := true   }   }) with fe := {  ({   S0 with fe := {   S0.fe with cf := true   }   }).fe with zf := true  }  }) with fe := { ({  ({   S0 with fe := {   S0.fe with cf := true   }   }) with fe := {  ({   S0 with fe := {   S0.fe with cf := true   }   }).fe with zf := true  }  }).fe with sf := true } })
    stepsTo s (s |>.setReg16 .ax 0xC334 |>.setIP 0x0101) 0x00C3 = true := by
  decide +kernel

/-- Row 9: ``SAHF``. -/
theorem test_row9_sahf :
    let s := withCode [0x9E] (S0.setReg16 .ax 0xFF34)
    stepsTo s (s |>.setIP 0x0101) 0x00D7 = true := by
  decide +kernel

/-- Row 11: ``PUSHF``. -/
theorem test_row11_pushf :
    let s := withCode [0x9C] ({ ({  ({   ({    S0 with fe := {    S0.fe with cf := true    }    }) with fe := {   ({    S0 with fe := {    S0.fe with cf := true    }    }).fe with if_ := true   }   }) with fe := {  ({   ({    S0 with fe := {    S0.fe with cf := true    }    }) with fe := {   ({    S0 with fe := {    S0.fe with cf := true    }    }).fe with if_ := true   }   }).fe with df := true  }  }) with fe := { ({  ({   ({    S0 with fe := {    S0.fe with cf := true    }    }) with fe := {   ({    S0 with fe := {    S0.fe with cf := true    }    }).fe with if_ := true   }   }) with fe := {  ({   ({    S0 with fe := {    S0.fe with cf := true    }    }) with fe := {   ({    S0 with fe := {    S0.fe with cf := true    }    }).fe with if_ := true   }   }).fe with df := true  }  }).fe with of_ := true } })
    stepsTo s (s |>.setReg16 .sp 0x00FE |>.setIP 0x0101 |>.putByte 0x4000 0x00FE 0x03 |>.putByte 0x4000 0x00FF 0x0E) 0x0E03 = true := by
  decide +kernel

/-- Row 12: ``POPF``. -/
theorem test_row12_popf :
    let s := withCode [0x9D] (placeBytes 0x4000 0x0100 [0xFF, 0xFF] S0)
    stepsTo s (s |>.setReg16 .sp 0x0102 |>.setIP 0x0101) 0x0FD7 = true := by
  decide +kernel

/-- Row 15: ``MOV AL, AH``. -/
theorem test_row15_mov_al_ah :
    let s := withCode [0x88, 0xE0] S0
    stepsTo s (s |>.setReg16 .ax 0x1212 |>.setIP 0x0102) 0x0002 = true := by
  decide +kernel

/-- Row 18: ``MOV AX, [BP-2]``. -/
theorem test_row18_mov_ax_bp_2 :
    let s := withCode [0x8B, 0x46, 0xFE] (placeBytes 0x4000 0x007E [0xEF, 0xBE] S0)
    stepsTo s (s |>.setReg16 .ax 0xBEEF |>.setIP 0x0103) 0x0002 = true := by
  decide +kernel

/-- Row 19: ``DS: MOV AX, [BP-2]``. -/
theorem test_row19_ds_mov_ax_bp_2 :
    let s := withCode [0x3E, 0x8B, 0x46, 0xFE] (placeBytes 0x2000 0x007E [0x11, 0x22] S0)
    stepsTo s (s |>.setReg16 .ax 0x2211 |>.setIP 0x0104) 0x0002 = true := by
  decide +kernel

/-- Row 20: ``MOV [BX], BX``. -/
theorem test_row20_mov_bx_bx :
    let s := withCode [0x89, 0x1F] S0
    stepsTo s (s |>.setIP 0x0102 |>.putByte 0x2000 0x0200 0x00 |>.putByte 0x2000 0x0201 0x02) 0x0002 = true := by
  decide +kernel

/-- Row 21: ``MOV byte [BX+SI], 0x5A``. -/
theorem test_row21_mov_byte_bx_si_0x5a :
    let s := withCode [0xC6, 0x00, 0x5A] S0
    stepsTo s (s |>.setIP 0x0103 |>.putByte 0x2000 0x0210 0x5A) 0x0002 = true := by
  decide +kernel

/-- Row 23: ``MOV AX, [0x0500]``. -/
theorem test_row23_mov_ax_0x0500 :
    let s := withCode [0xA1, 0x00, 0x05] (placeBytes 0x2000 0x0500 [0x78, 0x56] S0)
    stepsTo s (s |>.setReg16 .ax 0x5678 |>.setIP 0x0103) 0x0002 = true := by
  decide +kernel

/-- Row 24: ``ES: MOV [0x0010], AL``. -/
theorem test_row24_es_mov_0x0010_al :
    let s := withCode [0x26, 0xA2, 0x10, 0x00] S0
    stepsTo s (s |>.setIP 0x0104 |>.putByte 0x3000 0x0010 0x34) 0x0002 = true := by
  decide +kernel

/-- Row 26: ``MOV ES, AX``. -/
theorem test_row26_mov_es_ax :
    let s := withCode [0x8E, 0xC0] S0
    stepsTo s (s |>.setSReg .es 0x1234 |>.setIP 0x0102) 0x0002 = true := by
  decide +kernel

/-- Row 28: ``LDS BX, [0x0400]``. -/
theorem test_row28_lds_bx_0x0400 :
    let s := withCode [0xC5, 0x1E, 0x00, 0x04] (placeBytes 0x2000 0x0400 [0x34, 0x12, 0x00, 0x50] S0)
    stepsTo s (s |>.setReg16 .bx 0x1234 |>.setSReg .ds 0x5000 |>.setIP 0x0104) 0x0002 = true := by
  decide +kernel

/-- Row 29: ``LES DI, [0x0400]``. -/
theorem test_row29_les_di_0x0400 :
    let s := withCode [0xC4, 0x3E, 0x00, 0x04] (placeBytes 0x2000 0x0400 [0x34, 0x12, 0x00, 0x50] S0)
    stepsTo s (s |>.setReg16 .di 0x1234 |>.setSReg .es 0x5000 |>.setIP 0x0104) 0x0002 = true := by
  decide +kernel

/-- Row 32: ``XCHG [BX], AL``. -/
theorem test_row32_xchg_bx_al :
    let s := withCode [0x86, 0x07] (placeBytes 0x2000 0x0200 [0x99] S0)
    stepsTo s (s |>.setReg16 .ax 0x1299 |>.setIP 0x0102 |>.putByte 0x2000 0x0200 0x34) 0x0002 = true := by
  decide +kernel

/-- Row 30: ``XCHG CX, BX``. -/
theorem test_row30_xchg_cx_bx :
    let s := withCode [0x87, 0xD9] S0
    stepsTo s (s |>.setReg16 .cx 0x0200 |>.setReg16 .bx 0x0003 |>.setIP 0x0102) 0x0002 = true := by
  decide +kernel

/-- Row 33: ``XLAT``. -/
theorem test_row33_xlat :
    let s := withCode [0xD7] (placeBytes 0x2000 0x0205 [0x2A] (S0.setReg16 .ax 0x1205))
    stepsTo s (s |>.setReg16 .ax 0x122A |>.setIP 0x0101) 0x0002 = true := by
  decide +kernel

/-- Row 34: ``CBW``. -/
theorem test_row34_cbw :
    let s := withCode [0x98] (S0.setReg16 .ax 0x1280)
    stepsTo s (s |>.setReg16 .ax 0xFF80 |>.setIP 0x0101) 0x0002 = true := by
  decide +kernel

/-- Row 35: ``CWD``. -/
theorem test_row35_cwd :
    let s := withCode [0x99] (S0.setReg16 .ax 0x8000)
    stepsTo s (s |>.setReg16 .dx 0xFFFF |>.setIP 0x0101) 0x0002 = true := by
  decide +kernel

/-- Row 36: ``OUT 0x20, AL``. -/
theorem test_row36_out_0x20_al :
    let s := withCode [0xE6, 0x20] S0
    stepsTo s ({ (s |>.setIP 0x0102 : State) with ports := { inputs := [], outputs := [(0x0020, 0x34)], reads := 0 } }) 0x0002 = true := by
  decide +kernel

/-- Row 37: ``OUT DX, AX``. -/
theorem test_row37_out_dx_ax :
    let s := withCode [0xEF] S0
    stepsTo s ({ (s |>.setIP 0x0101 : State) with ports := { inputs := [], outputs := [(0x5678, 0x34), (0x5679, 0x12)], reads := 0 } }) 0x0002 = true := by
  decide +kernel

/-- Row 40: ``PUSH SP``. -/
theorem test_row40_push_sp :
    let s := withCode [0x54] S0
    stepsTo s (s |>.setReg16 .sp 0x00FE |>.setIP 0x0101 |>.putByte 0x4000 0x00FE 0xFE |>.putByte 0x4000 0x00FF 0x00) 0x0002 = true := by
  decide +kernel

/-- Row 44: ``PUSH word [0x0200]``. -/
theorem test_row44_push_word_0x0200 :
    let s := withCode [0xFF, 0x36, 0x00, 0x02] (placeBytes 0x2000 0x0200 [0xAD, 0xDE] S0)
    stepsTo s (s |>.setReg16 .sp 0x00FE |>.setIP 0x0104 |>.putByte 0x4000 0x00FE 0xAD |>.putByte 0x4000 0x00FF 0xDE) 0x0002 = true := by
  decide +kernel

/-- Row 46: ``POP SP``. -/
theorem test_row46_pop_sp :
    let s := withCode [0x5C] (placeBytes 0x4000 0x0100 [0x00, 0x30] S0)
    stepsTo s (s |>.setReg16 .sp 0x3000 |>.setIP 0x0101) 0x0002 = true := by
  decide +kernel

/-- Row 48: ``POP word [0x0200]``. -/
theorem test_row48_pop_word_0x0200 :
    let s := withCode [0x8F, 0x06, 0x00, 0x02] (placeBytes 0x4000 0x0100 [0xCD, 0xAB] S0)
    stepsTo s (s |>.setReg16 .sp 0x0102 |>.setIP 0x0104 |>.putByte 0x2000 0x0200 0xCD |>.putByte 0x2000 0x0201 0xAB) 0x0002 = true := by
  decide +kernel

/-- Row 49: ``PUSHA``. -/
theorem test_row49_pusha :
    let s := withCode [0x60] S0
    stepsTo s (s |>.setReg16 .sp 0x00F0 |>.setIP 0x0101 |>.putByte 0x4000 0x00FE 0x34 |>.putByte 0x4000 0x00FF 0x12 |>.putByte 0x4000 0x00FC 0x03 |>.putByte 0x4000 0x00FD 0x00 |>.putByte 0x4000 0x00FA 0x78 |>.putByte 0x4000 0x00FB 0x56 |>.putByte 0x4000 0x00F8 0x00 |>.putByte 0x4000 0x00F9 0x02 |>.putByte 0x4000 0x00F6 0x00 |>.putByte 0x4000 0x00F7 0x01 |>.putByte 0x4000 0x00F4 0x80 |>.putByte 0x4000 0x00F5 0x00 |>.putByte 0x4000 0x00F2 0x10 |>.putByte 0x4000 0x00F3 0x00 |>.putByte 0x4000 0x00F0 0x20 |>.putByte 0x4000 0x00F1 0x00) 0x0002 = true := by
  decide +kernel

/-- Row 50: ``POPA``. -/
theorem test_row50_popa :
    let s := withCode [0x61] (placeBytes 0x4000 0x0100 [0x01, 0x00, 0x02, 0x00, 0x03, 0x00, 0x04, 0x00, 0x05, 0x00, 0x06, 0x00, 0x07, 0x00, 0x08, 0x00] S0)
    stepsTo s (s |>.setReg16 .ax 0x0008 |>.setReg16 .cx 0x0007 |>.setReg16 .dx 0x0006 |>.setReg16 .bx 0x0005 |>.setReg16 .sp 0x0110 |>.setReg16 .bp 0x0003 |>.setReg16 .si 0x0002 |>.setReg16 .di 0x0001 |>.setIP 0x0101) 0x0002 = true := by
  decide +kernel

/-- Row 52: ``ENTER 4, 2``. -/
theorem test_row52_enter_4_2 :
    let s := withCode [0xC8, 0x04, 0x00, 0x02] (placeBytes 0x4000 0x007E [0xAA, 0x55] S0)
    stepsTo s (s |>.setReg16 .sp 0x00F6 |>.setReg16 .bp 0x00FE |>.setIP 0x0104 |>.putByte 0x4000 0x00FE 0x80 |>.putByte 0x4000 0x00FF 0x00 |>.putByte 0x4000 0x00FC 0xAA |>.putByte 0x4000 0x00FD 0x55 |>.putByte 0x4000 0x00FA 0xFE |>.putByte 0x4000 0x00FB 0x00) 0x0002 = true := by
  decide +kernel

/-- Row 53: ``LEAVE``. -/
theorem test_row53_leave :
    let s := withCode [0xC9] (placeBytes 0x4000 0x0080 [0xCD, 0xAB] S0)
    stepsTo s (s |>.setReg16 .sp 0x0082 |>.setReg16 .bp 0xABCD |>.setIP 0x0101) 0x0002 = true := by
  decide +kernel

/-- Row 54: ``PUSH AX``. -/
theorem test_row54_push_ax :
    let s := withCode [0x50] (S0.setReg16 .sp 0x0001)
    stepsTo s (s |>.setReg16 .sp 0xFFFF |>.setIP 0x0101 |>.putByte 0x4000 0xFFFF 0x34 |>.putByte 0x4000 0x0000 0x12) 0x0002 = true := by
  decide +kernel

/-- Row 57: ``JMP short -128``. -/
theorem test_row57_jmp_short_128 :
    let s := withCode [0xEB, 0x80] S0
    stepsTo s (s |>.setIP 0x0082) 0x0002 = true := by
  decide +kernel

/-- Row 60: ``JMP far 5000:5678``. -/
theorem test_row60_jmp_far_5000_5678 :
    let s := withCode [0xEA, 0x78, 0x56, 0x00, 0x50] S0
    stepsTo s (s |>.setSReg .cs 0x5000 |>.setIP 0x5678) 0x0002 = true := by
  decide +kernel

/-- Row 62: ``JMP near [BX]``. -/
theorem test_row62_jmp_near_bx :
    let s := withCode [0xFF, 0x27] (placeBytes 0x2000 0x0200 [0x00, 0x08] S0)
    stepsTo s (s |>.setIP 0x0800) 0x0002 = true := by
  decide +kernel

/-- Row 63: ``JMP far [BX]``. -/
theorem test_row63_jmp_far_bx :
    let s := withCode [0xFF, 0x2F] (placeBytes 0x2000 0x0200 [0x00, 0x08, 0x00, 0x70] S0)
    stepsTo s (s |>.setSReg .cs 0x7000 |>.setIP 0x0800) 0x0002 = true := by
  decide +kernel

/-- Row 66: ``JL +5``. -/
theorem test_row66_jl_5 :
    let s := withCode [0x7C, 0x05] ({ S0 with fe := { S0.fe with sf := true } })
    stepsTo s (s |>.setIP 0x0107) 0x0082 = true := by
  decide +kernel

/-- Row 70: ``JBE +5``. -/
theorem test_row70_jbe_5 :
    let s := withCode [0x76, 0x05] ({ S0 with fe := { S0.fe with cf := true } })
    stepsTo s (s |>.setIP 0x0107) 0x0003 = true := by
  decide +kernel

/-- Row 72: ``JCXZ +5``. -/
theorem test_row72_jcxz_5 :
    let s := withCode [0xE3, 0x05] (S0.setReg16 .cx 0x0000)
    stepsTo s (s |>.setIP 0x0107) 0x0002 = true := by
  decide +kernel

/-- Row 75: ``LOOP -2``. -/
theorem test_row75_loop_2 :
    let s := withCode [0xE2, 0xFE] (S0.setReg16 .cx 0x0000)
    stepsTo s (s |>.setReg16 .cx 0xFFFF |>.setIP 0x0100) 0x0002 = true := by
  decide +kernel

/-- Row 76: ``LOOPE -2``. -/
theorem test_row76_loope_2 :
    let s := withCode [0xE1, 0xFE] ({ (S0.setReg16 .cx 0x0005) with fe := { (S0.setReg16 .cx 0x0005).fe with zf := false } })
    stepsTo s (s |>.setReg16 .cx 0x0004 |>.setIP 0x0102) 0x0002 = true := by
  decide +kernel

/-- Row 77: ``LOOPNE -2``. -/
theorem test_row77_loopne_2 :
    let s := withCode [0xE0, 0xFE] ({ (S0.setReg16 .cx 0x0005) with fe := { (S0.setReg16 .cx 0x0005).fe with zf := false } })
    stepsTo s (s |>.setReg16 .cx 0x0004 |>.setIP 0x0100) 0x0002 = true := by
  decide +kernel

/-- Row 79: ``CALL near +16``. -/
theorem test_row79_call_near_16 :
    let s := withCode [0xE8, 0x10, 0x00] S0
    stepsTo s (s |>.setReg16 .sp 0x00FE |>.setIP 0x0113 |>.putByte 0x4000 0x00FE 0x03 |>.putByte 0x4000 0x00FF 0x01) 0x0002 = true := by
  decide +kernel

/-- Row 80: ``CALL BX``. -/
theorem test_row80_call_bx :
    let s := withCode [0xFF, 0xD3] S0
    stepsTo s (s |>.setReg16 .sp 0x00FE |>.setIP 0x0200 |>.putByte 0x4000 0x00FE 0x02 |>.putByte 0x4000 0x00FF 0x01) 0x0002 = true := by
  decide +kernel

/-- Row 82: ``CALL far 5000:5678``. -/
theorem test_row82_call_far_5000_5678 :
    let s := withCode [0x9A, 0x78, 0x56, 0x00, 0x50] S0
    stepsTo s (s |>.setReg16 .sp 0x00FC |>.setSReg .cs 0x5000 |>.setIP 0x5678 |>.putByte 0x4000 0x00FE 0x00 |>.putByte 0x4000 0x00FF 0x10 |>.putByte 0x4000 0x00FC 0x05 |>.putByte 0x4000 0x00FD 0x01) 0x0002 = true := by
  decide +kernel

/-- Row 83: ``CALL far [BX]``. -/
theorem test_row83_call_far_bx :
    let s := withCode [0xFF, 0x1F] (placeBytes 0x2000 0x0200 [0x00, 0x08, 0x00, 0x70] S0)
    stepsTo s (s |>.setReg16 .sp 0x00FC |>.setSReg .cs 0x7000 |>.setIP 0x0800 |>.putByte 0x4000 0x00FE 0x00 |>.putByte 0x4000 0x00FF 0x10 |>.putByte 0x4000 0x00FC 0x02 |>.putByte 0x4000 0x00FD 0x01) 0x0002 = true := by
  decide +kernel

/-- Row 85: ``RET 4``. -/
theorem test_row85_ret_4 :
    let s := withCode [0xC2, 0x04, 0x00] (placeBytes 0x4000 0x0100 [0x34, 0x12] S0)
    stepsTo s (s |>.setReg16 .sp 0x0106 |>.setIP 0x1234) 0x0002 = true := by
  decide +kernel

/-- Row 87: ``RETF 2``. -/
theorem test_row87_retf_2 :
    let s := withCode [0xCA, 0x02, 0x00] (placeBytes 0x4000 0x0100 [0x34, 0x12, 0x00, 0x60] S0)
    stepsTo s (s |>.setReg16 .sp 0x0106 |>.setSReg .cs 0x6000 |>.setIP 0x1234) 0x0002 = true := by
  decide +kernel

/-- Row 88: ``IRET``. -/
theorem test_row88_iret :
    let s := withCode [0xCF] (placeBytes 0x4000 0x0100 [0x34, 0x12, 0x00, 0x60, 0xD7, 0x0F] S0)
    stepsTo s (s |>.setReg16 .sp 0x0106 |>.setSReg .cs 0x6000 |>.setIP 0x1234) 0x0FD7 = true := by
  decide +kernel

/-- Row 90: ``JMP far 5000:5678``. -/
theorem test_row90_jmp_far_5000_5678 :
    let s := withCode [0xEA, 0x78, 0x56, 0x00, 0x50] (placeBytes 0x0000 0x0034 [0x00, 0x0A, 0x00, 0x10] ({ S0 with bus := { S0.bus with nonExec := [0x5000] } }))
    stepsTo s (s |>.setReg16 .sp 0x00FA |>.setIP 0x0A00 |>.putByte 0x4000 0x00FE 0x02 |>.putByte 0x4000 0x00FF 0x00 |>.putByte 0x4000 0x00FC 0x00 |>.putByte 0x4000 0x00FD 0x10 |>.putByte 0x4000 0x00FA 0x00 |>.putByte 0x4000 0x00FB 0x01) 0x0002 = true := by
  decide +kernel

/-- Row 92: ``BOUND AX, [BX]``. -/
theorem test_row92_bound_ax_bx :
    let s := withCode [0x62, 0x07] (placeBytes 0x2000 0x0200 [0x00, 0x10, 0x00, 0x20] S0)
    stepsTo s (s |>.setIP 0x0102) 0x0002 = true := by
  decide +kernel

/-- Row 93: ``BOUND AX, [BX]``. -/
theorem test_row93_bound_ax_bx :
    let s := withCode [0x62, 0x07] (placeBytes 0x0000 0x0014 [0x00, 0x0B, 0x00, 0x10] (placeBytes 0x2000 0x0200 [0x00, 0x20, 0x00, 0x30] S0))
    stepsTo s (s |>.setReg16 .sp 0x00FA |>.setIP 0x0B00 |>.putByte 0x4000 0x00FE 0x02 |>.putByte 0x4000 0x00FF 0x00 |>.putByte 0x4000 0x00FC 0x00 |>.putByte 0x4000 0x00FD 0x10 |>.putByte 0x4000 0x00FA 0x00 |>.putByte 0x4000 0x00FB 0x01) 0x0002 = true := by
  decide +kernel

/-- Row 95: ``INT 0x21``. -/
theorem test_row95_int_0x21 :
    let s := withCode [0xCD, 0x21] (placeBytes 0x0000 0x0084 [0x00, 0x0C, 0x00, 0x10] ({ ({  S0 with fe := {  S0.fe with if_ := true  }  }) with fe := { ({  S0 with fe := {  S0.fe with if_ := true  }  }).fe with cf := true } }))
    stepsTo s (s |>.setReg16 .sp 0x00FA |>.setIP 0x0C00 |>.putByte 0x4000 0x00FE 0x03 |>.putByte 0x4000 0x00FF 0x02 |>.putByte 0x4000 0x00FC 0x00 |>.putByte 0x4000 0x00FD 0x10 |>.putByte 0x4000 0x00FA 0x02 |>.putByte 0x4000 0x00FB 0x01) 0x0003 = true := by
  decide +kernel

/-- Row 97: ``INTO``. -/
theorem test_row97_into :
    let s := withCode [0xCE] (placeBytes 0x0000 0x0010 [0x00, 0x0C, 0x00, 0x10] ({ S0 with fe := { S0.fe with of_ := true } }))
    stepsTo s (s |>.setReg16 .sp 0x00FA |>.setIP 0x0C00 |>.putByte 0x4000 0x00FE 0x02 |>.putByte 0x4000 0x00FF 0x08 |>.putByte 0x4000 0x00FC 0x00 |>.putByte 0x4000 0x00FD 0x10 |>.putByte 0x4000 0x00FA 0x01 |>.putByte 0x4000 0x00FB 0x01) 0x0802 = true := by
  decide +kernel

/-- Row 99: ``INT 0x21``. -/
theorem test_row99_int_0x21 :
    let s := withCode [0xCD, 0x21] S0
    stepsTo s ({ (s |>.setIP 0x0102 : State) with fatal := some ⟨.noHandler, 33, .software, none, 0, 0⟩ }) 0x0002 = true := by
  decide +kernel

/-- Row 100: ``DIV BL``. -/
theorem test_row100_div_bl :
    let s := withCode [0xF6, 0xF3] (placeBytes 0x0000 0x0000 [0x00, 0x0D, 0x00, 0x10] (S0.setReg16 .bx 0x0000))
    stepsTo s (s |>.setReg16 .sp 0x00FA |>.setIP 0x0D00 |>.putByte 0x4000 0x00FE 0x02 |>.putByte 0x4000 0x00FF 0x00 |>.putByte 0x4000 0x00FC 0x00 |>.putByte 0x4000 0x00FD 0x10 |>.putByte 0x4000 0x00FA 0x00 |>.putByte 0x4000 0x00FB 0x01) 0x0002 = true := by
  decide +kernel

/-- Row 103: ``IDIV BL``. -/
theorem test_row103_idiv_bl :
    let s := withCode [0xF6, 0xFB] (placeBytes 0x0000 0x0000 [0x00, 0x0D, 0x00, 0x10] ((S0.setReg16 .ax 0x8000).setReg16 .bx 0x00FF))
    stepsTo s (s |>.setReg16 .sp 0x00FA |>.setIP 0x0D00 |>.putByte 0x4000 0x00FE 0x02 |>.putByte 0x4000 0x00FF 0x00 |>.putByte 0x4000 0x00FC 0x00 |>.putByte 0x4000 0x00FD 0x10 |>.putByte 0x4000 0x00FA 0x00 |>.putByte 0x4000 0x00FB 0x01) 0x0002 = true := by
  decide +kernel

/-- Row 104: ``AAM 0``. -/
theorem test_row104_aam_0 :
    let s := withCode [0xD4, 0x00] (placeBytes 0x0000 0x0000 [0x00, 0x0D, 0x00, 0x10] S0)
    stepsTo s (s |>.setReg16 .sp 0x00FA |>.setIP 0x0D00 |>.putByte 0x4000 0x00FE 0x02 |>.putByte 0x4000 0x00FF 0x00 |>.putByte 0x4000 0x00FC 0x00 |>.putByte 0x4000 0x00FD 0x10 |>.putByte 0x4000 0x00FA 0x00 |>.putByte 0x4000 0x00FB 0x01) 0x0002 = true := by
  decide +kernel

/-- Row 105: ``HLT``. -/
theorem test_row105_hlt :
    let s := withCode [0xF4] S0
    stepsTo s ({ (s |>.setIP 0x0101 : State) with halted := true }) 0x0002 = true := by
  decide +kernel

/-- Row 107: ``NOP``. -/
theorem test_row107_nop :
    let s := withCode [0x90] (placeBytes 0x0000 0x0020 [0x00, 0x0E, 0x00, 0x10] ({ ({  S0 with pending := some 8  }) with fe := { ({  S0 with pending := some 8  }).fe with if_ := true } }))
    stepsTo s ({ (s |>.setReg16 .sp 0x00FA |>.setIP 0x0E00 |>.putByte 0x4000 0x00FE 0x02 |>.putByte 0x4000 0x00FF 0x02 |>.putByte 0x4000 0x00FC 0x00 |>.putByte 0x4000 0x00FD 0x10 |>.putByte 0x4000 0x00FA 0x01 |>.putByte 0x4000 0x00FB 0x01 : State) with pending := none }) 0x0002 = true := by
  decide +kernel

/-- Row 108: ``STI``. -/
theorem test_row108_sti :
    let s := withCode [0xFB] (placeBytes 0x0000 0x0020 [0x00, 0x0E, 0x00, 0x10] ({ S0 with pending := some 8 }))
    stepsTo s ({ (s |>.setReg16 .sp 0x00FA |>.setIP 0x0E00 |>.putByte 0x4000 0x00FE 0x02 |>.putByte 0x4000 0x00FF 0x02 |>.putByte 0x4000 0x00FC 0x00 |>.putByte 0x4000 0x00FD 0x10 |>.putByte 0x4000 0x00FA 0x01 |>.putByte 0x4000 0x00FB 0x01 : State) with pending := none }) 0x0002 = true := by
  decide +kernel

/-- Row 110: ``(invalid 0F)``. -/
theorem test_row110_invalid_0f :
    let s := withCode [0x0F] (placeBytes 0x0000 0x0018 [0x00, 0x09, 0x00, 0x10] S0)
    stepsTo s (s |>.setReg16 .sp 0x00FA |>.setIP 0x0900 |>.putByte 0x4000 0x00FE 0x02 |>.putByte 0x4000 0x00FF 0x00 |>.putByte 0x4000 0x00FC 0x00 |>.putByte 0x4000 0x00FD 0x10 |>.putByte 0x4000 0x00FA 0x00 |>.putByte 0x4000 0x00FB 0x01) 0x0002 = true := by
  decide +kernel

/-- Row 112: ``(FE /7)``. -/
theorem test_row112_fe_7 :
    let s := withCode [0xFE, 0x38] (placeBytes 0x0000 0x0018 [0x00, 0x09, 0x00, 0x10] S0)
    stepsTo s (s |>.setReg16 .sp 0x00FA |>.setIP 0x0900 |>.putByte 0x4000 0x00FE 0x02 |>.putByte 0x4000 0x00FF 0x00 |>.putByte 0x4000 0x00FC 0x00 |>.putByte 0x4000 0x00FD 0x10 |>.putByte 0x4000 0x00FA 0x00 |>.putByte 0x4000 0x00FB 0x01) 0x0002 = true := by
  decide +kernel

/-- Row 114: ``MOV CS, AX``. -/
theorem test_row114_mov_cs_ax :
    let s := withCode [0x8E, 0xC8] (placeBytes 0x0000 0x0034 [0x00, 0x0A, 0x00, 0x10] ({ S0 with bus := { S0.bus with nonExec := [0x1234] } }))
    stepsTo s (s |>.setReg16 .sp 0x00FA |>.setIP 0x0A00 |>.putByte 0x4000 0x00FE 0x02 |>.putByte 0x4000 0x00FF 0x00 |>.putByte 0x4000 0x00FC 0x00 |>.putByte 0x4000 0x00FD 0x10 |>.putByte 0x4000 0x00FA 0x00 |>.putByte 0x4000 0x00FB 0x01) 0x0002 = true := by
  decide +kernel

/-- Row 116: ``ESC 5, [0x0200]``. -/
theorem test_row116_esc_5_0x0200 :
    let s := withCode [0xDD, 0x06, 0x00, 0x02] S0
    stepsTo s (s |>.setIP 0x0104) 0x0002 = true := by
  decide +kernel

/-- Row 120: ``MOVSW``. -/
theorem test_row120_movsw :
    let s := withCode [0xA5] ({ (placeBytes 0x2000 0x0010 [0xAA, 0xBB] S0) with fe := { (placeBytes 0x2000 0x0010 [0xAA, 0xBB] S0).fe with df := true } })
    stepsTo s (s |>.setReg16 .si 0x000E |>.setReg16 .di 0x001E |>.setIP 0x0101 |>.putByte 0x3000 0x0020 0xAA |>.putByte 0x3000 0x0021 0xBB) 0x0402 = true := by
  decide +kernel

/-- Row 121: ``CS: MOVSB``. -/
theorem test_row121_cs_movsb :
    let s := withCode [0x2E, 0xA4] (placeBytes 0x1000 0x0010 [0x77] S0)
    stepsTo s (s |>.setReg16 .si 0x0011 |>.setReg16 .di 0x0021 |>.setIP 0x0102 |>.putByte 0x3000 0x0020 0x77) 0x0002 = true := by
  decide +kernel

/-- Row 123: ``STOSW``. -/
theorem test_row123_stosw :
    let s := withCode [0xAB] ({ S0 with fe := { S0.fe with df := true } })
    stepsTo s (s |>.setReg16 .di 0x001E |>.setIP 0x0101 |>.putByte 0x3000 0x0020 0x34 |>.putByte 0x3000 0x0021 0x12) 0x0402 = true := by
  decide +kernel

/-- Row 125: ``LODSW``. -/
theorem test_row125_lodsw :
    let s := withCode [0xAD] (placeBytes 0x2000 0x0010 [0xCD, 0xAB] S0)
    stepsTo s (s |>.setReg16 .ax 0xABCD |>.setReg16 .si 0x0012 |>.setIP 0x0101) 0x0002 = true := by
  decide +kernel

/-- Row 126: ``CMPSB``. -/
theorem test_row126_cmpsb :
    let s := withCode [0xA6] (placeBytes 0x3000 0x0020 [0x06] (placeBytes 0x2000 0x0010 [0x05] S0))
    stepsTo s (s |>.setReg16 .si 0x0011 |>.setReg16 .di 0x0021 |>.setIP 0x0101) 0x0097 = true := by
  decide +kernel

/-- Row 129: ``SCASW``. -/
theorem test_row129_scasw :
    let s := withCode [0xAF] (placeBytes 0x3000 0x0020 [0x35, 0x12] S0)
    stepsTo s (s |>.setReg16 .di 0x0022 |>.setIP 0x0101) 0x0097 = true := by
  decide +kernel

/-- Row 132: ``REPE CMPSB``. -/
theorem test_row132_repe_cmpsb :
    let s := withCode [0xF3, 0xA6] (placeBytes 0x3000 0x0020 [0x01, 0x02, 0xFF, 0x04, 0x05] (placeBytes 0x2000 0x0010 [0x01, 0x02, 0x03, 0x04, 0x05] (S0.setReg16 .cx 0x0005)))
    stepsTo s (s |>.setReg16 .cx 0x0002 |>.setReg16 .si 0x0013 |>.setReg16 .di 0x0023 |>.setIP 0x0102) 0x0013 = true := by
  decide +kernel

/-- Row 133: ``REPNE SCASB``. -/
theorem test_row133_repne_scasb :
    let s := withCode [0xF2, 0xAE] (placeBytes 0x3000 0x0020 [0x11, 0x22, 0x33, 0x44] ((S0.setReg16 .ax 0x0033).setReg16 .cx 0x0008))
    stepsTo s (s |>.setReg16 .cx 0x0005 |>.setReg16 .di 0x0023 |>.setIP 0x0102) 0x0046 = true := by
  decide +kernel

/-- Row 136: ``REP MOVSB``. -/
theorem test_row136_rep_movsb :
    let s := withCode [0xF3, 0xA4] (placeBytes 0x2000 0x0000 [0xCD] (placeBytes 0x2000 0xFFFF [0xAB] (((S0.setReg16 .cx 0x0002).setReg16 .si 0xFFFF).setReg16 .di 0xFFFF)))
    stepsTo s (s |>.setReg16 .cx 0x0000 |>.setReg16 .si 0x0001 |>.setReg16 .di 0x0001 |>.setIP 0x0102 |>.putByte 0x3000 0xFFFF 0xAB |>.putByte 0x3000 0x0000 0xCD) 0x0002 = true := by
  decide +kernel

/-- Row 138: ``INSB``. -/
theorem test_row138_insb :
    let s := withCode [0x6C] ({ S0 with ports := { S0.ports with inputs := [(0x5678,0x5A)] } })
    stepsTo s (s |>.setReg16 .di 0x0021 |>.setIP 0x0101 |>.putByte 0x3000 0x0020 0x5A) 0x0002 = true := by
  decide +kernel

/-- Row 140: ``REP OUTSW``. -/
theorem test_row140_rep_outsw :
    let s := withCode [0xF3, 0x6F] (placeBytes 0x2000 0x0010 [0x01, 0x02, 0x03, 0x04] (S0.setReg16 .cx 0x0002))
    stepsTo s ({ (s |>.setReg16 .cx 0x0000 |>.setReg16 .si 0x0014 |>.setIP 0x0102 : State) with ports := { inputs := [], outputs := [(0x5678, 0x01), (0x5679, 0x02), (0x5678, 0x03), (0x5679, 0x04)], reads := 0 } }) 0x0002 = true := by
  decide +kernel

/-- Row 142: ``REP REP ES: CS: LODSB``. -/
theorem test_row142_rep_rep_es_cs_lodsb :
    let s := withCode [0xF3, 0xF3, 0x26, 0x2E, 0xAC] (placeBytes 0x1000 0x0010 [0x6B] (S0.setReg16 .cx 0x0001))
    stepsTo s (s |>.setReg16 .ax 0x126B |>.setReg16 .cx 0x0000 |>.setReg16 .si 0x0011 |>.setIP 0x0105) 0x0002 = true := by
  decide +kernel

/-! ### Flag computations, rows of spec/95_test_vectors.md sections 2.2 to 2.7 -/

/-- Result, CF, OF, AF, ZF, SF, PF. -/
def sixFlags {w : Nat} (x : BitVec w × FlagEngine) : BitVec w × List Bool :=
  (x.1, [x.2.cf, x.2.of_, x.2.af, x.2.zf, x.2.sf, x.2.pf])

/-- Result, CF, OF, ZF, SF, PF: AF is a draw. -/
def fiveFlags {w : Nat} (x : BitVec w × FlagEngine) : BitVec w × List Bool :=
  (x.1, [x.2.cf, x.2.of_, x.2.zf, x.2.sf, x.2.pf])

/-- The flags right after reset, with CF given. -/
def cf (c : Bool) : FlagEngine := { State.reset.fe with cf := c }

/-- Section 2.2, Add and Adc. -/
theorem test_add_flags :
    sixFlags (AluOp.apply .add (0x7F : BitVec 8) 0x01 (cf false)) = (0x80, [false, true, true, false, true, false]) ∧
      sixFlags (AluOp.apply .add (0x80 : BitVec 8) 0x80 (cf false)) = (0x00, [true, true, false, true, false, true]) ∧
      sixFlags (AluOp.apply .adc (0x7F : BitVec 8) 0x00 (cf true)) = (0x80, [false, true, true, false, true, false]) ∧
      sixFlags (AluOp.apply .adc (0xFFFF : BitVec 16) 0xFFFF (cf true)) = (0xFFFF, [true, false, true, false, true, true]) := by
  decide +kernel

/-- Section 2.2, Sub, Sbb and Neg. -/
theorem test_sub_flags :
    sixFlags (AluOp.apply .sub (0x00 : BitVec 8) 0x01 (cf false)) = (0xFF, [true, false, true, false, true, true]) ∧
      sixFlags (AluOp.apply .sub (0x7F : BitVec 8) 0xFF (cf false)) = (0x80, [true, true, false, false, true, false]) ∧
      sixFlags (AluOp.apply .sbb (0x80 : BitVec 8) 0x7F (cf true)) = (0x00, [false, true, true, true, false, true]) ∧
      sixFlags (neg (0x8000 : BitVec 16) (cf true)) = (0x8000, [true, true, false, false, true, true]) := by
  decide +kernel

/-- Section 2.2, Inc and Dec: CF kept. -/
theorem test_inc_dec_flags :
    sixFlags (inc (0xFFFF : BitVec 16) (cf true)) = (0x0000, [true, false, true, true, false, true]) ∧
      sixFlags (inc (0x7F : BitVec 8) (cf false)) = (0x80, [false, true, true, false, true, false]) ∧
      sixFlags (dec (0x00 : BitVec 8) (cf false)) = (0xFF, [false, false, true, false, true, true]) ∧
      sixFlags (dec (0x8000 : BitVec 16) (cf true)) = (0x7FFF, [true, true, true, false, false, true]) := by
  decide +kernel

/-- Section 2.3: CF and OF false whatever they were. -/
theorem test_logic_flags :
    fiveFlags (AluOp.apply .and (0xF0 : BitVec 8) 0x0F (cf true)) = (0x00, [false, false, true, false, true]) ∧
      fiveFlags (AluOp.apply .or (0x8000 : BitVec 16) 0x0001 (cf true)) = (0x8001, [false, false, false, true, false]) ∧
      fiveFlags (AluOp.apply .xor (0xFF : BitVec 8) 0x7F (cf true)) = (0x80, [false, false, false, true, false]) := by
  decide +kernel

/-- Section 2.4, Mul and IMul: low half, high half, CF, OF, ZF, SF, PF. -/
def product {w : Nat} (x : BitVec w × BitVec w × FlagEngine) :
    BitVec w × BitVec w × List Bool :=
  (x.1, x.2.1, [x.2.2.cf, x.2.2.of_, x.2.2.zf, x.2.2.sf, x.2.2.pf])

theorem test_products :
    product (mul (0xFF : BitVec 8) 0xFF (cf false)) = (0x01, 0xFE, [true, true, false, false, false]) ∧
      product (mul (0x00FF : BitVec 16) 0x0101 (cf true)) = (0xFFFF, 0x0000, [false, false, false, true, true]) ∧
      product (imul (0x80 : BitVec 8) 0xFF (cf false)) = (0x80, 0x00, [true, true, false, true, false]) ∧
      product (imul (0xC0 : BitVec 8) 0x02 (cf true)) = (0x80, 0xFF, [false, false, false, true, false]) := by
  decide +kernel

/-- Section 2.4, Div and IDiv: truncation toward zero, and the quotients that do not fit. -/
theorem test_quotients :
    (udivide 8 0xFEFF 0xFF = some (0xFF, 0xFE) ∧ udivide 8 0x0100 0x01 = none ∧ udivide 16 5 0 = none) ∧
      (sdivide 8 (-7) 2 = some (0xFD, 0xFF) ∧ sdivide 8 7 (-2) = some (0xFD, 0x01) ∧
        sdivide 8 (-128) 1 = some (0x80, 0x00)) ∧
      sdivide 8 (-128) (-1) = none ∧ sdivide 16 (-32768) (-1) = none ∧ sdivide 8 0 0 = none := by
  decide +kernel

/-- Section 2.5, the OF column of SHIFT_OF1_RULE = doc, counts below, at and above the width. -/
theorem test_shift_flags :
    fiveFlags (shl defaultParams (0x40 : BitVec 8) 1 (cf true)) = (0x80, [false, true, false, true, false]) ∧
      fiveFlags (shl defaultParams (0x01 : BitVec 8) 8 (cf true)) = (0x00, [true, true, true, false, true]) ∧
      fiveFlags (shl defaultParams (0x01 : BitVec 8) 9 (cf true)) = (0x00, [false, false, true, false, true]) ∧
      fiveFlags (shr defaultParams (0x81 : BitVec 8) 1 (cf true)) = (0x40, [true, true, false, false, false]) ∧
      fiveFlags (shr defaultParams (0x80 : BitVec 8) 8 (cf true)) = (0x00, [true, true, true, false, true]) ∧
      fiveFlags (sar defaultParams (0x80 : BitVec 8) 200 (cf true)) = (0xFF, [true, false, false, true, true]) ∧
      fiveFlags (sar defaultParams (0x8000 : BitVec 16) 1 (cf true)) = (0xC000, [false, true, false, true, true]) := by
  decide +kernel

/-- Section 2.5, the OF column of SHIFT_OF1_RULE = hw. -/
theorem test_shift_of_hw :
    (shl { defaultParams with shiftOf1 := .hw } (0x40 : BitVec 8) 1 (cf true)).2.of_ = true ∧
      (shr { defaultParams with shiftOf1 := .hw } (0x80 : BitVec 8) 1 (cf true)).2.of_ = true ∧
      (shr { defaultParams with shiftOf1 := .hw } (0x01 : BitVec 8) 1 (cf true)).2.of_ = false ∧
      (sar { defaultParams with shiftOf1 := .hw } (0x80 : BitVec 8) 1 (cf true)).2.of_ = false := by
  decide +kernel

/-- Section 2.6: result, CF, OF. -/
def rotation {w : Nat} (x : BitVec w × FlagEngine) : BitVec w × Bool × Bool := (x.1, x.2.cf, x.2.of_)

theorem test_rotates :
    (rotation (rol defaultParams (0x80 : BitVec 8) 1 (cf false)) = (0x01, true, true) ∧
        rotation (rol defaultParams (0x1234 : BitVec 16) 20 (cf false)) = (0x2341, true, true) ∧
        rotation (ror defaultParams (0x81 : BitVec 8) 1 (cf false)) = (0xC0, true, false)) ∧
      (rotation (rcl defaultParams (0x81 : BitVec 8) 8 (cf false)) = (0x40, true, true) ∧
        rotation (rcl defaultParams (0x1234 : BitVec 16) 16 (cf true)) = (0x891A, false, true) ∧
        rotation (rcr defaultParams (0x01 : BitVec 8) 1 (cf true)) = (0x80, true, true)) ∧
      rol defaultParams (0x81 : BitVec 8) 8 (cf true) = (0x81, cf true) ∧
      rcr defaultParams (0x1234 : BitVec 16) 17 (cf true) = (0x1234, cf true) := by
  decide +kernel

/-- ROT_EFF0 = setcf: CF from the unchanged operand (43 R342). -/
theorem test_rotate_setcf :
    (rol { defaultParams with rotEff0 := .setcf } (0x81 : BitVec 8) 8 (cf false)).2.cf = true ∧
      (ror { defaultParams with rotEff0 := .setcf } (0x01 : BitVec 8) 8 (cf true)).2.cf = false := by
  decide +kernel

/-- Section 2.7, DAA and DAS: AL, CF, AF, ZF, SF, PF. -/
def decimal (x : Byte × FlagEngine) : Byte × List Bool :=
  (x.1, [x.2.cf, x.2.af, x.2.zf, x.2.sf, x.2.pf])

theorem test_decimal :
    decimal (daa 0x7D (cf false)) = (0x83, [false, true, false, true, false]) ∧
      decimal (daa 0x9A (cf false)) = (0x00, [true, true, true, false, true]) ∧
      decimal (das 0x05 { cf false with af := true }) = (0xFF, [true, true, false, true, true]) ∧
      decimal (das 0xEE (cf true)) = (0x88, [true, true, false, true, true]) := by
  decide +kernel

/-- Section 2.7, AAA, AAS, AAM and AAD: AL, AH and the defined flags. -/
theorem test_ascii :
    ((aaa 0xFB 0x01 (cf false)).1 = 0x01 ∧ (aaa 0xFB 0x01 (cf false)).2.1 = 0x02 ∧
        (aaa 0xFB 0x01 (cf false)).2.2.cf = true) ∧
      ((aas 0x03 0x01 { cf false with af := true }).1 = 0x0D ∧
        (aas 0x03 0x01 { cf false with af := true }).2.1 = 0x00) ∧
      ((aam 0xFF 0x0A (cf false)).map fun x => (x.1, x.2.1, x.2.2.zf)) = some (0x05, 0x19, false) ∧
      ((aam 0x50 0x00 (cf false)).map fun x => x.1) = none ∧ (aad 0xFF 0xFF 0x0A (cf false)).1 = 0xF5 ∧
      (aad 0xFF 0xFF 0x0A (cf false)).2.sf = true := by
  decide +kernel

/-- Section 2.8: the image of all nine flags, and what a loaded image reads back as. -/
theorem test_images :
    flagsImage16 defaultParams (setFlags16 0xFFFF (cf false)) = 0x0FD7 ∧
      flagsImage16 defaultParams (setFlags16 0xF02A (cf true)) = 0x0002 ∧
      flagsImage8 defaultParams (setFlags8 0xFF (cf false)) = 0xD7 := by
  decide +kernel

/-- Section 2.1, two entries the document prints and the last one of the table. -/
theorem test_parity : parity 0x03 = true ∧ parity 0x07 = false ∧ parity 0xFF = true := by
  decide +kernel

/-- HALT_WAKE_ON_IRQ (60 R664): the wake-up leaves Halted and delivers the request; without it the machine stays. -/
theorem test_halted :
    stepsTo { S0 with halted := true } { S0 with halted := true } 0x0002 = true ∧
      (let s : State :=
        { placeBytes 0 0x20 [0x00, 0x0E, 0x00, 0x10] S0 with
          halted := true
          pending := some 8
          params := { S0.params with haltWakeOnIrq := true }
          fe := { S0.fe with if_ := true } }
      (match step s with
        | .next t => !t.halted && t.pending.isNone && decide (t.ip = 0x0E00 ∧ t.regs.sp = 0x00FA)
        | _ => false) = true) := by
  decide +kernel

/-- After a fatal stop no step is defined (60 R653). -/
theorem test_fatal_stop :
    (match step { S0 with fatal := some ⟨.noHandler, 0x21, .software, none, 0, 0⟩ } with
      | .fault (.fatalStop r) => decide (r.vector = 0x21)
      | _ => false) = true := by
  decide +kernel

/-- Program P2 (section 3), its REP MOVSB slot with DF set: three bytes, downward. -/
theorem test_rep_movsb_down :
    let s : State :=
      { placeBytes 0x1000 0x00FE [0x11, 0x22, 0x33, 0x44, 0x55] (withCode [0xF3, 0xA4] { S0 with sregs := ⟨0x2000, 0, 0, 0x1000⟩ }) with
        regs := ⟨0, 3, 0, 0, 0, 0, 0x0100, 0x0200⟩
        fe := { S0.fe with df := true } }
    stepsTo s
      ({ s with regs := ⟨0, 0, 0, 0, 0, 0, 0x00FD, 0x01FD⟩, ip := 0x0102 }.putByte 0x2000 0x0200 0x33
        |>.putByte 0x2000 0x01FF 0x22 |>.putByte 0x2000 0x01FE 0x11) 0x0402 = true := by
  decide +kernel

/-- PUSH_SP_NEW = false stores the old SP (47 R482). -/
theorem test_push_sp_old :
    let s := withCode [0x54] { S0 with params := { S0.params with pushSpNew := false } }
    stepsTo s ((s.putByte 0x4000 0x00FF 0x01).setSP 0x00FE |>.setIP 0x0101) 0x0002 = true := by
  decide +kernel

/-- ESC_BEHAVIOUR = invalid: WAIT dispatches InvalidOpcode (49 R595). -/
theorem test_wait_invalid :
    let s := withCode [0x9B]
      (placeBytes 0 0x18 [0x00, 0x09, 0x00, 0x10] { S0 with params := { S0.params with esc := .invalid } })
    (match step s with
      | .next t => decide (t.ip = 0x0900 ∧ t.regs.sp = 0x00FA ∧ t.wordAt 0x4000 0x00FA = 0x0100)
      | _ => false) = true := by
  decide +kernel

/-- A write-back the bus refuses (46 R436, 60 R651): SUB [BX], AL pushes the flags it found, not those of 00 - 34. -/
theorem test_refused_write_back :
    let s := withCode [0x28, 0x07] (placeBytes 0 0x34 [0x00, 0x0D, 0x00, 0x10]
      { S0 with bus := { S0.bus with refusals := [⟨0x2000, 0, 0xFFFF, false, true, .generalProtection⟩] } })
    (match step s with
      | .next t => decide (t.ip = 0x0D00 ∧ t.wordAt 0x4000 0x00FE = 0x0002 ∧ t.wordAt 0x4000 0x00FA = 0x0100)
      | _ => false) = true := by
  decide +kernel

/-- INVALID_OPCODES never holds a prefix byte (30_encoding R175, 49 R598): LOCK NOP runs. -/
theorem test_lock_not_refused :
    let s := withCode [0xF0, 0x90]
      { S0 with params := { S0.params with invalidOpcodes := ⟨[⟨0xFF00, 0xF000⟩], []⟩ } }
    stepsTo s (s.setIP 0x0102) 0x0002 = true := by
  decide +kernel

/-- ES: LEA AX, AX (30_encoding R220): InvalidOpcode, vector 6, IP rewound to the prefix. -/
theorem test_invalid_pair :
    let s := withCode [0x26, 0x8D, 0xC0] (placeBytes 0 0x18 [0x00, 0x09, 0x00, 0x10] S0)
    (match step s with
      | .next t => decide (t.ip = 0x0900 ∧ t.wordAt 0x4000 0x00FA = 0x0100)
      | _ => false) = true := by
  decide +kernel

/-- `s`, the bus refusing the read of the byte `k` bytes after CS:IP. -/
def refusedAt (k : Word) (s : State) : State :=
  { s with bus := { s.bus with refusals := [⟨s.sregs.cs, s.ip + k, s.ip + k, true, false, .generalProtection⟩] } }

/-- S0 whose INVALID_OPCODES holds what `added` says and not what `removed` says, its code behind a REP prefix. -/
def listed (added removed : List EncodingPattern) (code : List Byte) : State :=
  withCode (0xF3 :: code) { S0 with params := { S0.params with invalidOpcodes := ⟨added, removed⟩ } }

/-- D6 and FF /7 taken out of INVALID_OPCODES have no effect in the spec: the step refuses them by name. -/
theorem test_taken_out :
    ([listed [] [⟨0xFF00, 0xD600⟩] [0xD6], listed [] [⟨0xFF38, 0xFF38⟩] [0xFF, 0xF8]].all fun s =>
      match step s with
      | .refused r => decide (r = .encodingWithoutMeaning)
      | _ => false) = true := by
  decide +kernel

/-- Shift group /6 taken out of INVALID_OPCODES is SHL (30_encoding R199), F7 /1 TEST: D0 77 01 at 81 gives 02 and CF;
F7 C8 FF 00 at AX = 1234 gives the flags of 0034. The cache holds the reg field of the byte. -/
theorem test_admitted_groups :
    (match step (placeBytes 0x2000 0x0201 [0x81] (listed [] [⟨0xFF38, 0xD030⟩] [0xD0, 0x77, 0x01])) with
      | .next t =>
        decide (t.byteAt 0x2000 0x0201 = 0x02 ∧ t.fe.cf = true ∧ t.ip = 0x0104 ∧
          t.doc = ⟨true, 1, 6, 7, true, 0x2000, 0x0201⟩)
      | _ => false) = true ∧
    (match step (listed [] [⟨0xFF38, 0xF708⟩] [0xF7, 0xC8, 0xFF, 0x00]) with
      | .next t =>
        decide (t.regs = S0.regs ∧ t.fe.zf = false ∧ t.fe.pf = false ∧ t.fe.sf = false ∧ t.ip = 0x0105 ∧ t.doc.reg = 1)
      | _ => false) = true := by
  decide +kernel

/-- 0F taken out of INVALID_OPCODES is POP CS (10_state R64, 47 R489); a selector the bus refuses leaves CS as it was. -/
theorem test_admitted_pop_cs :
    let s := listed [] [⟨0xFF00, 0x0F00⟩] [0x0F]
    (match step (placeBytes 0x4000 0x0100 [0x34, 0x12] s) with
      | .next t => decide (t.sregs.cs = 0x1234 ∧ t.regs.sp = 0x0102 ∧ t.ip = 0x0102)
      | _ => false) = true ∧
    (match step (placeBytes 0x4000 0x0100 [0x34, 0x12]
        (placeBytes 0 0x34 [0x00, 0x0D, 0x00, 0x10] { s with bus := { s.bus with nonExec := [0x1234] } })) with
      | .next t => decide (t.sregs.cs = 0x1000 ∧ t.ip = 0x0D00 ∧ t.regs.sp = 0x00FC ∧ t.wordAt 0x4000 0x00FC = 0x0100)
      | _ => false) = true := by
  decide +kernel

/-- The decode comes before the verdict (30_encoding R190, 46 R442, 47 R487): 8F /1 and, taken out of INVALID_OPCODES,
C6 /7 raise InvalidOpcode with the cache written; so does a refused fetch of an immediate (46 R436). -/
theorem test_cache_before_verdict :
    (match step (placeBytes 0 0x18 [0x00, 0x09, 0x00, 0x10] (withCode [0x8F, 0x4F, 0x02] S0)) with
      | .next t => decide (t.ip = 0x0900 ∧ t.doc = ⟨true, 1, 1, 7, true, 0x2000, 0x0202⟩)
      | _ => false) = true ∧
    (match step (placeBytes 0 0x18 [0x00, 0x09, 0x00, 0x10] (listed [] [⟨0xFFFF, 0xC638⟩] [0xC6, 0x38])) with
      | .next t => decide (t.ip = 0x0900 ∧ t.doc = ⟨true, 0, 7, 0, true, 0x2000, 0x0210⟩)
      | _ => false) = true ∧
    (match step (placeBytes 0 0x34 [0x00, 0x0D, 0x00, 0x10]
        (refusedAt 4 (withCode [0xC6, 0x06, 0x00, 0x03, 0xFF] S0))) with
      | .next t => decide (t.ip = 0x0D00 ∧ t.doc = ⟨true, 0, 0, 6, true, 0x2000, 0x0300⟩)
      | _ => false) = true := by
  decide +kernel

/-- A displacement byte that the bus refuses: FE /2 and F6 /1 raise InvalidOpcode before it is fetched, 8F /1, whose rule
decodes the operand first, the bus fault (30_encoding R220, 60 R654, 47 R487). -/
theorem test_verdict_at_modrm :
    let run (code : List Byte) : Out :=
      step (placeBytes 0 0x18 [0x00, 0x09, 0x00, 0x10] (placeBytes 0 0x34 [0x00, 0x0D, 0x00, 0x10]
        (refusedAt 2 (withCode code S0))))
    (match run [0xFE, 0x57] with | .next t => decide (t.ip = 0x0900 ∧ t.doc = State.reset.doc) | _ => false) = true ∧
    (match run [0xF6, 0x4F] with | .next t => decide (t.ip = 0x0900 ∧ t.doc = State.reset.doc) | _ => false) = true ∧
    (match run [0x8F, 0x4F] with | .next t => decide (t.ip = 0x0D00 ∧ t.doc = State.reset.doc) | _ => false) = true := by
  decide +kernel

/-- A callback requests an abort inside a slot (60 R663, 70 R695): Run returns Aborted after it, the request cleared. -/
theorem test_callback_abort :
    (match run 5 (withCode [0x90, 0x90] { S0 with callbackAborts := [true] }) with
      | (r, t) => decide (r = .aborted ∧ t.ip = 0x0101 ∧ t.budget = 4 ∧ t.abortRequested = false)) = true := by
  decide +kernel

/-- RESET other than its default (10_state R110): CS:IP of the host's choice; memory stays. -/
theorem test_reset_value :
    let s := withCode [0x90] { S0 with launch := { S0.launch with sregs := ⟨0, 0xF000, 0, 0⟩, ip := 0xFFF0 } }
    s.hostReset.sregs.cs = 0xF000 ∧ s.hostReset.ip = 0xFFF0 ∧ s.hostReset.regs.ax = 0 ∧ s.hostReset.mem = s.mem := by
  decide +kernel

/-- ROT_OF_MULTI as a table (43 R350): its entry at ROL 81 by 4, the formula at the next count. -/
theorem test_rotate_table :
    let p := { defaultParams with rotOfMulti := .table [(⟨.rol, .w8, 0x81, 4, false⟩, true)] }
    (rol p (0x81 : BitVec 8) 4 (cf false)).2.of_ = true ∧ (rol p (0x01 : BitVec 8) 7 (cf false)).2.of_ = true ∧
      (rol p (0x81 : BitVec 8) 4 (cf true)).2.of_ = false := by
  decide +kernel
/-! ### Witnesses: for every statement with hypotheses, a state and operands that meet them -/

/-- The instruction answers a next state. -/
def completes (i : Instr) (s : State) : Bool :=
  match exec i s with
  | .next _ => true
  | _ => false

theorem refusal_S0 (w : Bool) (seg off : Word) : S0.bus.refusal w seg off = none := rfl

theorem fresh_S0 : fresh S0 := rfl

/-- S0 on a bus that refuses some windows. -/
def refusing (l : List BusWindow) : State := { S0 with bus := { S0.bus with refusals := l } }

theorem witness_DecodeOfEncode :
    (Instr.addRm8R8 (.mem (.disp16 .bp 0xFFFF)) .bh).wf = true ∧ (Instr.leaR16M .di (.direct 0)).wf = true := by
  decide

theorem witness_EncodeOfDecode : decode [0x80, 0b11100001, 0x9A, 0x77] = .ok (.andRm8Imm8 (.reg .cl) 0x9A, [0x77]) :=
  rfl

/-- ADD AL, BL at CS:IP of S0. -/
theorem witness_StepRunsDecodedInstruction :
    let s := withCode [0x00, 0xD8] S0
    s.fatal = none ∧ s.halted = false ∧ (Instr.addRm8R8 (.reg .al) .bl).wf = true ∧
      (Instr.addRm8R8 (.reg .al) .bl).isPrefix = false ∧ codeIs s (encode (.addRm8R8 (.reg .al) .bl)) ∧
      admitted s.params (encode (.addRm8R8 (.reg .al) .bl)) := by
  refine ⟨rfl, rfl, rfl, rfl, ⟨by decide +kernel, fun _ _ => rfl⟩, rfl, fun _ m u h => ?_⟩
  rfl

/-- REP ES: MOVSB at CS:IP of S0. -/
theorem witness_PrefixesFoldIntoTheSlot :
    let s := withCode [0xF3, 0x26, 0xA4] S0
    let ps := [Instr.prefixRep, Instr.prefixEs]
    s.fatal = none ∧ s.halted = false ∧ (∀ p ∈ ps, p.isPrefix = true) ∧ ps.length < slotFuel ∧
      Instr.movsb.wf = true ∧ Instr.movsb.isPrefix = false ∧ codeIs s (ps.flatMap encode ++ encode .movsb) ∧
      admitted s.params (encode .movsb) := by
  exact ⟨rfl, rfl, by decide, by decide +kernel, rfl, rfl, ⟨by decide +kernel, fun _ _ => rfl⟩, rfl, fun h => nomatch h⟩

/-- Invalid by the opcode byte: 0F, WAIT where ESC is invalid, NOP where the host has added it; D6 taken out of the set;
0F taken out of it, with a selector CS may take and with one it may not. Behind REP, or with no prefix. -/
theorem witness_InvalidOpcodeIsDispatched :
    (let s := listed [] [] [0x0F];
      opensSlot s [.prefixRep] ∧ codeIs s ([Instr.prefixRep].flatMap encode ++ [0x0F]) ∧ 0x0F ∈ rowless ∧
        takenOut s.params [0x0F] = false) ∧
      (let s := withCode [0x9B] { S0 with params := { S0.params with esc := .invalid } };
      opensSlot s [] ∧ codeIs s ([].flatMap encode ++ [0x9B]) ∧ opcodeRefused s.params 0x9B = true) ∧
      (let s := listed [⟨0xFF00, 0x9000⟩] [] [0x90];
      opensSlot s [.prefixRep] ∧ codeIs s ([Instr.prefixRep].flatMap encode ++ [0x90]) ∧
        opcodeRefused s.params 0x90 = true) ∧
      (let s := listed [] [⟨0xFF00, 0xD600⟩] [0xD6];
      opensSlot s [.prefixRep] ∧ codeIs s ([Instr.prefixRep].flatMap encode ++ [0xD6]) ∧
        opcodeRefused s.params 0xD6 = false ∧ 0xD6 ∈ rowless ∧ takenOut s.params [0xD6] = true ∧ (0xD6 : Byte) ≠ 0x0F) := by
  unfold opensSlot
  refine ⟨⟨?_, ⟨?_, fun _ _ => rfl⟩, ?_⟩, ⟨?_, ⟨?_, fun _ _ => rfl⟩, ?_⟩, ⟨?_, ⟨?_, fun _ _ => rfl⟩, ?_⟩, ?_,
    ⟨?_, fun _ _ => rfl⟩, ?_⟩ <;> decide +kernel

/-- 0F taken out of the set, with a stack word that is executable and with one that is not. -/
theorem witness_InvalidOpcodeIsDispatched_popCs :
    (let s := listed [] [⟨0xFF00, 0x0F00⟩] [0x0F];
      let o := prefixRun [.prefixRep] (fetched s 2);
      opensSlot s [.prefixRep] ∧ codeIs s ([Instr.prefixRep].flatMap encode ++ [0x0F]) ∧
        opcodeRefused s.params 0x0F = false ∧ 0x0F ∈ rowless ∧ takenOut s.params [0x0F] = true ∧ canPop o 0 ∧
        o.bus.isExecutable (stacked o 0) = true) ∧
      (let s : State :=
        { listed [] [⟨0xFF00, 0x0F00⟩] [0x0F] with bus := { S0.bus with nonExec := [0x0000] } };
      let o := prefixRun [.prefixRep] (fetched s 2);
      opensSlot s [.prefixRep] ∧ codeIs s ([Instr.prefixRep].flatMap encode ++ [0x0F]) ∧
        opcodeRefused s.params 0x0F = false ∧ 0x0F ∈ rowless ∧ takenOut s.params [0x0F] = true ∧ canPop o 0 ∧
        o.bus.isExecutable (stacked o 0) = false) := by
  unfold opensSlot
  refine ⟨⟨?_, ⟨?_, fun _ _ => rfl⟩, ?_, ?_, ?_, ⟨rfl, rfl⟩, ?_⟩, ?_, ⟨?_, fun _ _ => rfl⟩, ?_, ?_, ?_, ⟨rfl, rfl⟩, ?_⟩ <;>
    decide +kernel

/-- The verdict at the ModRM byte: a pair of the table that the host has added; FE 2 added, its displacement refused by
the bus; FF 7 and F6 1 with the default set and a refused displacement; FE 10 and FF F8 taken out of the set, which
stop. -/
theorem witness_InvalidOpcodeIsDispatched_atModRM :
    (let s := listed [⟨0xFFFF, 0x00D8⟩] [] [0x00, 0xD8];
      opensSlot s [.prefixRep] ∧ codeIs s ([Instr.prefixRep].flatMap encode ++ [0x00, 0xD8]) ∧
        (opShape 0x00).hasModRM = true ∧ opcodeRefused s.params 0x00 = false ∧ pairRefused s.params 0x00 0xD8 = true ∧
        invalidEncoding 0x00 0xD8 = false) ∧
      (let s := refusedAt 3 (listed [⟨0xFF38, 0xFE10⟩] [] [0xFE, 0x97]);
      opensSlot s [.prefixRep] ∧ codeIs s ([Instr.prefixRep].flatMap encode ++ [0xFE, 0x97]) ∧
        (opShape 0xFE).hasModRM = true ∧ opcodeRefused s.params 0xFE = false ∧ pairRefused s.params 0xFE 0x97 = true ∧
        atDispatch 0xFE 0x97) ∧
      (let s := refusedAt 3 (listed [] [] [0xFF, 0x7F]);
      opensSlot s [.prefixRep] ∧ codeIs s ([Instr.prefixRep].flatMap encode ++ [0xFF, 0x7F]) ∧
        (opShape 0xFF).hasModRM = true ∧ opcodeRefused s.params 0xFF = false ∧ atDispatch 0xFF 0x7F ∧
        takenOut s.params [0xFF, 0x7F] = false) ∧
      (let s := refusedAt 3 (listed [] [] [0xF6, 0x4F]);
      opensSlot s [.prefixRep] ∧ codeIs s ([Instr.prefixRep].flatMap encode ++ [0xF6, 0x4F]) ∧
        (opShape 0xF6).hasModRM = true ∧ opcodeRefused s.params 0xF6 = false ∧ atDispatch 0xF6 0x4F ∧
        takenOut s.params [0xF6, 0x4F] = false) ∧
      (let s := listed [] [⟨0xFF38, 0xFE10⟩] [0xFE, 0x10];
      opensSlot s [.prefixRep] ∧ codeIs s ([Instr.prefixRep].flatMap encode ++ [0xFE, 0x10]) ∧
        (opShape 0xFE).hasModRM = true ∧ opcodeRefused s.params 0xFE = false ∧ pairRefused s.params 0xFE 0x10 = false ∧
        invalidEncoding 0xFE 0x10 = true ∧ takenOut s.params [0xFE, 0x10] = true) ∧
      (let s := listed [] [⟨0xFF38, 0xFF38⟩] [0xFF, 0xF8];
      opensSlot s [.prefixRep] ∧ codeIs s ([Instr.prefixRep].flatMap encode ++ [0xFF, 0xF8]) ∧
        (opShape 0xFF).hasModRM = true ∧ opcodeRefused s.params 0xFF = false ∧ pairRefused s.params 0xFF 0xF8 = false ∧
        invalidEncoding 0xFF 0xF8 = true ∧ takenOut s.params [0xFF, 0xF8] = true ∧
        (0xF8 : Byte).toNat / 8 % 8 = 7) := by
  unfold opensSlot atDispatch codeIs readable8
  refine ⟨?_, ?_, ?_, ?_, ?_, ?_⟩ <;> decide +kernel

/-- The verdict after the displacement: the shift group's hole 6 with a 16-bit displacement, the same added by the host,
a register form of LEA, and the one pair C6 F8 taken out of the set, whose rule still checks it. -/
theorem witness_InvalidOpcodeIsDispatched_decoded :
    (let s := listed [] [] [0xC0, 0xB0, 0x34, 0x12];
      opensSlot s [.prefixRep] ∧ codeIs s ([Instr.prefixRep].flatMap encode ++ 0xC0 :: 0xB0 :: [0x34, 0x12]) ∧
        readModRM [0xB0, 0x34, 0x12] = some (6, .mem (.disp16 .bxSi 0x1234), []) ∧ (opShape 0xC0).hasModRM = true ∧
        opcodeRefused s.params 0xC0 = false ∧ invalidEncoding 0xC0 0xB0 = true ∧ ¬atDispatch 0xC0 0xB0 ∧
        takenOut s.params [0xC0, 0xB0] = false) ∧
      (let s := listed [⟨0xFF38, 0xC030⟩] [] [0xC0, 0x70, 0x80];
      opensSlot s [.prefixRep] ∧ codeIs s ([Instr.prefixRep].flatMap encode ++ 0xC0 :: 0x70 :: [0x80]) ∧
        readModRM [0x70, 0x80] = some (6, .mem (.disp8 .bxSi 0x80), []) ∧ (opShape 0xC0).hasModRM = true ∧
        opcodeRefused s.params 0xC0 = false ∧ invalidEncoding 0xC0 0x70 = true ∧ ¬atDispatch 0xC0 0x70 ∧
        pairRefused s.params 0xC0 0x70 = true) ∧
      (let s := withCode [0x8D, 0xC0] S0;
      opensSlot s [] ∧ codeIs s ([].flatMap encode ++ 0x8D :: 0xC0 :: []) ∧ readModRM [0xC0] = some (0, .reg 0, []) ∧
        (opShape 0x8D).hasModRM = true ∧ opcodeRefused s.params 0x8D = false ∧ invalidEncoding 0x8D 0xC0 = true ∧
        ¬atDispatch 0x8D 0xC0 ∧ takenOut s.params [0x8D, 0xC0] = false) ∧
      (let s := listed [] [⟨0xFFFF, 0xC6F8⟩] [0xC6, 0xF8];
      opensSlot s [.prefixRep] ∧ codeIs s ([Instr.prefixRep].flatMap encode ++ 0xC6 :: 0xF8 :: []) ∧
        readModRM [0xF8] = some (7, .reg 0, []) ∧ (opShape 0xC6).hasModRM = true ∧ opcodeRefused s.params 0xC6 = false ∧
        invalidEncoding 0xC6 0xF8 = true ∧ ¬atDispatch 0xC6 0xF8 ∧ takenOut s.params [0xC6, 0xF8] = true ∧
        ownCheck 0xC6 7) := by
  unfold opensSlot ownCheck atDispatch
  refine ⟨⟨?_, ⟨?_, fun _ _ => rfl⟩, ?_⟩, ⟨?_, ⟨?_, fun _ _ => rfl⟩, ?_⟩, ⟨?_, ⟨?_, fun _ _ => rfl⟩, ?_⟩, ?_,
    ⟨?_, fun _ _ => rfl⟩, ?_⟩ <;> decide +kernel

/-- Holes the host admits: SHL by an immediate count in memory, TEST of a register with a word. -/
theorem witness_InvalidOpcodeIsDispatched_admitted :
    (let s := listed [] [⟨0xFF38, 0xC030⟩] [0xC0, 0x77, 0x80, 0x04];
      opensSlot s [.prefixRep] ∧ (Rm.mem (.disp8 .bx 0x80) : Rm (BitVec 3)).wf = true ∧
        codeIs s ([Instr.prefixRep].flatMap encode ++ 0xC0 :: (modrmBytes 6 (.mem (.disp8 .bx 0x80)) ++ [0x04])) ∧
        opcodeRefused s.params 0xC0 = false ∧ pairRefused s.params 0xC0 0x77 = false ∧
        takenOut s.params [0xC0, 0x77] = true ∧
        admittedRow 0xC0 6 (.mem (.disp8 .bx 0x80)) [0x04] = some (.shlRm8Imm8 (.mem (.disp8 .bx 0x80)) 4)) ∧
      (let s := listed [] [⟨0xFF38, 0xF708⟩] [0xF7, 0xCF, 0xFF, 0x00];
      opensSlot s [.prefixRep] ∧ (Rm.reg 7 : Rm (BitVec 3)).wf = true ∧
        codeIs s ([Instr.prefixRep].flatMap encode ++ 0xF7 :: (modrmBytes 1 (.reg 7) ++ [0xFF, 0x00])) ∧
        opcodeRefused s.params 0xF7 = false ∧ pairRefused s.params 0xF7 0xCF = false ∧
        takenOut s.params [0xF7, 0xCF] = true ∧
        admittedRow 0xF7 1 (.reg 7) [0xFF, 0x00] = some (.testRm16Imm16 (.reg .di) 0x00FF)) := by
  unfold opensSlot
  refine ⟨⟨?_, ?_, ⟨?_, fun _ _ => rfl⟩, ?_⟩, ?_, ?_, ⟨?_, fun _ _ => rfl⟩, ?_⟩ <;> decide +kernel

/-- A fatal state, a halted one with nothing to wake it, and one that is woken. -/
theorem witness_FatalAndHaltedSteps :
    { S0 with fatal := some ⟨.noHandler, 0, .software, none, 0, 0⟩ }.fatal.isSome = true ∧
      (let s := { S0 with halted := true };
      s.fatal = none ∧ s.halted = true ∧
        (s.params.haltWakeOnIrq = false ∨ s.fe.if_ = false ∨ s.pending = none)) ∧
      (let s : State :=
        { S0 with
          halted := true
          pending := some 0
          params := { S0.params with haltWakeOnIrq := true }
          fe := { S0.fe with if_ := true } };
      s.fatal = none ∧ s.halted = true ∧ s.params.haltWakeOnIrq = true ∧ s.fe.if_ = true ∧ s.pending = some 0) :=
  ⟨rfl, ⟨rfl, rfl, .inl rfl⟩, rfl, rfl, rfl, rfl, rfl⟩

/-- S0 with a handler at 1000:0C00 for interrupt 0xFF, the last of the table. -/
def armed : State := placeBytes 0 0x03FC [0x00, 0x0C, 0x00, 0x10] S0

theorem refusal_armed (w : Bool) (seg off : Word) : armed.bus.refusal w seg off = none := rfl

theorem armed_vector : vectorOff armed 0xFF = 0x0C00 ∧ vectorSel armed 0xFF = 0x1000 := by
  unfold vectorOff vectorSel
  decide +kernel

theorem armed_wf : armed.mem.wf := by
  decide +kernel

/-- The same machine halted, with IF set, interrupt 0xFF requested and HALT_WAKE_ON_IRQ. -/
def sleeping : State :=
  { armed with
    halted := true
    pending := some 0xFF
    params := { armed.params with haltWakeOnIrq := true }
    fe := { armed.fe with if_ := true } }

/-- A host hook that claims, one that does not, one with no answer left, none; and a handler that is entered. -/
theorem witness_DispatchEntersHandler :
    (let s : State := { armed with hooks := { armed.hooks with hostInt := some [⟨true, [.ip 7]⟩] } };
      s.hooks.hostInt = some (⟨true, [.ip 7]⟩ :: []) ∧
        hostClaims s = (true, { s with ip := 7, hooks := { s.hooks with hostInt := some [] } })) ∧
      armed.hooks.hostInt = none ∧ { armed.hooks with hostInt := some [] }.hostInt = some [] ∧
      hostClaims armed = (false, armed) ∧ vectorReadable armed 0xFF ∧
      (vectorOff armed 0xFF ≠ 0 ∨ vectorSel armed 0xFF ≠ 0) ∧ frameWritable armed ∧
      armed.bus.isExecutable (vectorSel armed 0xFF) = true ∧ armed.mem.wf := by
  refine ⟨⟨rfl, rfl⟩, rfl, rfl, rfl, ?_, .inl ?_, ?_, rfl, armed_wf⟩
  · simp [vectorReadable, readable16, readable8, refusal_armed]
  · rw [armed_vector.1]; decide
  · simp [frameWritable, writable16, writable8, refusal_armed]

/-- A claimed dispatch; a null vector; the first and the last byte of a vector entry refused; a handler that is not
executable. -/
theorem witness_FatalDispatches :
    (let s : State := { S0 with hooks := { S0.hooks with hostInt := some [⟨true, []⟩] } };
      hostClaims s = (true, { s with hooks := { s.hooks with hostInt := some [] } })) ∧
      (hostClaims S0 = (false, S0) ∧ vectorReadable S0 0 ∧ vectorOff S0 0 = 0 ∧ vectorSel S0 0 = 0) ∧
      (let u := refusing [⟨0, 0, 0xFFFF, true, false, .generalProtection⟩];
      hostClaims u = (false, u) ∧ (0 : Nat) < 4 ∧
        u.bus.refusal false u.params.ivtSel (4 * zext8 0 + BitVec.ofNat 16 0) = some .generalProtection) ∧
      (let u := refusing [⟨0, 0x03FF, 0x03FF, true, false, .segmentNotPresent⟩];
      hostClaims u = (false, u) ∧ (∀ i < 3, readable8 u u.params.ivtSel (4 * zext8 0xFF + BitVec.ofNat 16 i)) ∧
        u.bus.refusal false u.params.ivtSel (4 * zext8 0xFF + BitVec.ofNat 16 3) = some .segmentNotPresent) ∧
      (let u : State := { armed with bus := { armed.bus with nonExec := [0x1000] } };
      hostClaims u = (false, u) ∧ vectorReadable u 0xFF ∧ (vectorOff u 0xFF ≠ 0 ∨ vectorSel u 0xFF ≠ 0) ∧
        frameWritable u ∧ u.bus.isExecutable (vectorSel u 0xFF) = false ∧ u.mem.wf) := by
  refine ⟨rfl, ⟨rfl, ?_, rfl, rfl⟩, ⟨rfl, by decide, by decide +kernel⟩, ⟨rfl, ?_, by decide +kernel⟩, rfl, ?_, .inl ?_,
    ?_, ?_, armed_wf⟩
  · exact ⟨⟨rfl, rfl⟩, rfl, rfl⟩
  · unfold readable8
    decide +kernel
  · exact ⟨⟨rfl, rfl⟩, rfl, rfl⟩
  · exact fun h => absurd (armed_vector.1.symm.trans h) (by decide)
  · exact ⟨⟨rfl, rfl⟩, ⟨rfl, rfl⟩, rfl, rfl⟩
  · show Bus.isExecutable { armed.bus with nonExec := [0x1000] } (vectorSel armed 0xFF) = false
    rw [armed_vector.2]
    decide

/-- The first push of a dispatch refused at its first byte, the third at its second. -/
theorem witness_FatalDispatches_push :
    (let u : State :=
        { armed with bus := { armed.bus with refusals := [⟨0x4000, 0xFE, 0xFE, false, true, .generalProtection⟩] } };
      hostClaims u = (false, u) ∧ vectorReadable u 0xFF ∧ (vectorOff u 0xFF ≠ 0 ∨ vectorSel u 0xFF ≠ 0) ∧
        canPushAll u 0 ∧ pushRefused (pushedAll [] u) (flagsImage16 u.params u.fe) .generalProtection u) ∧
      (let u : State :=
        { armed with bus := { armed.bus with refusals := [⟨0x4000, 0xFB, 0xFB, false, true, .generalProtection⟩] } };
      let v := pushedAll [flagsImage16 u.params u.fe, u.sregs.cs] u;
      hostClaims u = (false, u) ∧ vectorReadable u 0xFF ∧ (vectorOff u 0xFF ≠ 0 ∨ vectorSel u 0xFF ≠ 0) ∧
        canPushAll u 2 ∧ pushRefused v u.ip .generalProtection (v.putByte 0x4000 0x00FA 0x00)) := by
  have h : vectorOff armed 0xFF ≠ 0 := fun h => absurd (armed_vector.1.symm.trans h) (by decide)
  refine ⟨⟨rfl, ⟨⟨rfl, rfl⟩, rfl, rfl⟩, .inl h, fun i hi => absurd hi (by omega), .inl ⟨?_, rfl⟩⟩,
    rfl, ⟨⟨rfl, rfl⟩, rfl, rfl⟩, .inl h, ?_, .inr ⟨?_, ?_, rfl⟩⟩
  · decide +kernel
  · unfold canPushAll writable16 writable8
    decide +kernel
  · unfold writable8
    decide +kernel
  · decide +kernel

theorem witness_FaultVectorsAndRewind : S0.params = defaultParams := rfl

theorem witness_ReturnsUndoCalls :
    (S0.mem.wf ∧ canPush S0 ∧ readable16 S0 S0.sregs.ss (S0.regs.sp - 2) ∧ nearCall (.callRel16 0xFF00) S0 ∧
        completes (.callRel16 0xFF00) S0 = true ∧ nearCall (.callRm16 (.reg .sp)) S0 ∧
        completes (.callRm16 (.reg .sp)) S0 = true) ∧
      (farFrameOpen S0 ∧ S0.bus.isExecutable S0.sregs.cs = true ∧ farCall (.callFarDirect 0x5678 0x5000) S0 ∧
        completes (.callFarDirect 0x5678 0x5000) S0 = true ∧ farCall (.callFarMem (.base .bx)) S0 ∧
        completes (.callFarMem (.base .bx)) S0 = true) ∧
      (let s : State :=
        { armed with
          params := { armed.params with vecBreakpoint := 0xFF, vecOverflow := 0xFF }
          fe := { armed.fe with of_ := true } };
      s.mem.wf ∧ s.hooks.debug = none ∧ s.hooks.hostInt = none ∧ vectorReadable s 0xFF ∧
        (vectorOff s 0xFF ≠ 0 ∨ vectorSel s 0xFF ≠ 0) ∧ frameWritable s ∧ frameReadable s ∧
        s.bus.isExecutable (vectorSel s 0xFF) = true ∧ s.bus.isExecutable s.sregs.cs = true ∧
        s.params.flagsFixedOnes &&& 0x0FD5 = 0 ∧
        ∀ i ∈ [Instr.intImm8 0xFF, .int3, .into], interrupts i s 0xFF ∧ completes i s = true) := by
  refine ⟨⟨by decide, ⟨rfl, rfl⟩, ⟨rfl, rfl⟩, .inl ⟨_, rfl⟩, by decide +kernel, .inr ⟨_, rfl, rfl, trivial⟩, by decide +kernel⟩,
    ⟨⟨⟨rfl, rfl⟩, ⟨rfl, rfl⟩, ⟨rfl, rfl⟩, rfl, rfl⟩, rfl, .inl ⟨_, _, rfl, rfl⟩, by decide +kernel,
      .inr ⟨_, rfl, rfl, ⟨⟨rfl, rfl⟩, rfl, rfl⟩, rfl⟩, by decide +kernel⟩,
    armed_wf, rfl, rfl, ⟨⟨rfl, rfl⟩, rfl, rfl⟩, .inl ?_, ⟨⟨rfl, rfl⟩, ⟨rfl, rfl⟩, rfl, rfl⟩,
    ⟨⟨rfl, rfl⟩, ⟨rfl, rfl⟩, rfl, rfl⟩, rfl, rfl, by decide, ?_⟩
  · exact fun h => absurd (armed_vector.1.symm.trans h) (by decide)
  · unfold interrupts
    decide +kernel

/-- NOP with a request pending, IF set and IF clear, and without a request. -/
theorem witness_InterruptCheckEndsEverySlot :
    let ends (s : State) (f : State → Bool) : Bool :=
      s.fatal.isNone && !s.halted &&
        match slotBody slotFuel (beginSlot s) with
        | .next u => u.fatal.isNone && f u
        | _ => false
    ends (withCode [0x90] { S0 with pending := some 8, fe := { S0.fe with if_ := true } })
        (fun u => u.fe.if_ && decide (u.pending = some 8)) = true ∧
      ends (withCode [0x90] { S0 with pending := some 8 }) (fun u => !u.fe.if_) = true ∧
      ends (withCode [0x90] S0) (fun u => u.pending.isNone) = true := by
  decide +kernel

/-- A request pending and none, fatal, halted with nothing to wake it in the three ways there are, woken, an abort
request, and no debugger. -/
theorem witness_HostCallsAndRun :
    S0.pending = none ∧ { S0 with pending := some 0xFF }.pending = some 0xFF ∧
      { S0 with fatal := some ⟨.noHandler, 0, .software, none, 0, 0⟩ }.fatal.isSome = true ∧
      (S0.fatal = none ∧ { S0 with halted := true }.halted = true ∧
        (S0.params.haltWakeOnIrq = false ∧ S0.fe.if_ = false ∧ S0.pending = none)) ∧
      (sleeping.fatal = none ∧ sleeping.halted = true ∧ sleeping.params.haltWakeOnIrq = true ∧
        sleeping.fe.if_ = true ∧ sleeping.pending = some 0xFF ∧
        (dispatch 0xFF .hardware none
          { sleeping.callbackAbort with halted := false, pending := none, budget := 5 }).fatal = none) ∧
      S0.halted = false ∧ { S0 with abortRequested := true }.abortRequested = true := by
  decide +kernel

/-- A step without a debugger and with one that answers no and yes, and one in which a callback requests an abort. -/
theorem witness_HostCallsAndRun_steps :
    let goesOn (s : State) : Bool :=
      match step s with
      | .next t => t.fatal.isNone && !t.halted
      | _ => false
    let asked (b : Bool) : State := { S0 with hooks := { S0.hooks with debug := some ⟨[⟨b, []⟩], []⟩ } }
    runs S0 ∧ S0.hooks.debug = none ∧ goesOn (withCode [0x90] { S0 with budget := 1 }) = true ∧
      (runs (asked false) ∧ (asked false).hooks.debug = some ⟨⟨false, []⟩ :: [], []⟩) ∧
      (runs (asked true) ∧ (asked true).hooks.debug = some ⟨⟨true, []⟩ :: [], []⟩) ∧
      (let s : State := withCode [0x90] { S0 with callbackAborts := [true, false] }
      runs s ∧ s.hooks.debug = none ∧ s.hooks.hostInt = none ∧ s.callbackAborts = true :: [false] ∧
        goesOn { s with budget := 0 + 2 } = true) := by
  unfold runs
  decide +kernel

/-- RESET at its default. -/
theorem witness_ResetValues : S0.launch = defaultLaunch := rfl

/-- Flags after an ADD of the record's two operands, and a byte in memory. -/
theorem witness_StepKeepsInvariant :
    let s : State := { withCode [0x90] S0 with fe := (addWith (0x7F : Byte) 0x01 false S0.fe).2 }
    s.Inv ∧ (match step s with | .next _ => true | _ => false) = true := by
  refine ⟨⟨by decide +kernel, ?_⟩, by decide +kernel⟩
  unfold FlagEngine.recordAgrees
  decide +kernel

/-- A word at the top of a segment: open, its first and its second byte refused to a read, and to a write. -/
theorem witness_WordAccessIsTwoBytes :
    readable16 S0 0x4000 0xFFFF ∧ S0.mem.wf ∧ writable16 S0 0x4000 0xFFFF ∧
      (let s := refusing [⟨0x4000, 0, 0, true, true, .segmentNotPresent⟩];
      wordReadRefused s 0x4000 0xFFFF .segmentNotPresent ∧
        wordWriteRefused s 0x4000 0xFFFF 0x1234 .segmentNotPresent (s.putByte 0x4000 0xFFFF 0x34)) ∧
      (let s := refusing [⟨0x4000, 0xFFFF, 0xFFFF, true, true, .segmentNotPresent⟩];
      wordReadRefused s 0x4000 0xFFFF .segmentNotPresent ∧
        wordWriteRefused s 0x4000 0xFFFF 0x1234 .segmentNotPresent s) := by
  unfold wordReadRefused wordWriteRefused readable8 writable8
  refine ⟨⟨rfl, rfl⟩, by decide, ⟨rfl, rfl⟩, ?_, ?_⟩ <;> decide +kernel

/-- An open stack; a push refused at its first and at its second byte; a pop refused. -/
theorem witness_PopUndoesPush :
    (S0.mem.wf ∧ canPush S0 ∧ readable16 S0 S0.sregs.ss (S0.regs.sp - 2)) ∧
      (let s := refusing [⟨0x4000, 0xFE, 0xFE, false, true, .generalProtection⟩];
      pushRefused s 0x1234 .generalProtection s) ∧
      (let s := refusing [⟨0x4000, 0xFF, 0x100, true, true, .generalProtection⟩];
      pushRefused s 0x1234 .generalProtection (s.putByte 0x4000 0xFE 0x34) ∧
        wordReadRefused s s.sregs.ss s.regs.sp .generalProtection) := by
  unfold pushRefused wordReadRefused wordWriteRefused readable8 writable8
  refine ⟨⟨by decide, ⟨rfl, rfl⟩, rfl, rfl⟩, ?_, ?_⟩ <;> decide +kernel

theorem witness_EffectiveAddresses : fresh S0 := rfl

/-- S0 whose selector 0 is not executable: the word at the top of the stack and AX of zero name it. -/
def guarded : State := { S0 with bus := { S0.bus with nonExec := [0] }, regs := { S0.regs with ax := 0 } }

theorem witness_CodeSegmentIsChecked :
    guarded.bus.isExecutable 0 = false ∧
      (fresh guarded ∧ pairReadable guarded (.base .bx) ∧
        guarded.bus.isExecutable (pairHigh guarded (.base .bx)) = false) ∧
      (canPop guarded 0 ∧ canPop guarded 2 ∧ guarded.bus.isExecutable (stacked guarded 2) = false ∧ canPop guarded 4) ∧
      fresh guarded ∧ canRead16 guarded (.reg .ax) ∧ guarded.bus.isExecutable (operand16 guarded (.reg .ax)) = false := by
  exact ⟨rfl, ⟨rfl, ⟨⟨rfl, rfl⟩, rfl, rfl⟩, rfl⟩, ⟨⟨rfl, rfl⟩, ⟨rfl, rfl⟩, rfl, rfl, rfl⟩, rfl, trivial, rfl⟩

/-- The two readings of the carry-in, at both widths. -/
theorem witness_AdditionFlags :
    (16 = 8 ∨ 16 = 16) ∧ ((AluOp.adc = .add ∧ true = false) ∨ (AluOp.adc = .adc ∧ true = (cf true).cf)) ∧
      (AluOp.add = .add ∧ false = false) :=
  ⟨.inr rfl, .inr ⟨rfl, rfl⟩, rfl, rfl⟩

theorem witness_SubtractionFlags :
    (8 = 8 ∨ 8 = 16) ∧ ((AluOp.sbb = .sub ∧ true = false) ∨ (AluOp.sbb = .sbb ∧ true = (cf true).cf)) ∧
      (AluOp.sub = .sub ∧ false = false) :=
  ⟨.inl rfl, .inr ⟨rfl, rfl⟩, rfl, rfl⟩

theorem witness_IncDecKeepCarry : (8 = 8 ∨ 8 = 16) ∧ (16 = 8 ∨ 16 = 16) := ⟨.inl rfl, .inr rfl⟩

theorem witness_LogicFlagsForced : (8 = 8 ∨ 8 = 16) ∧ (AluOp.xor = .and ∨ AluOp.xor = .or ∨ AluOp.xor = .xor) := by
  decide

theorem witness_Products :
    ∃ lo hi f lo' hi' f', mul (0xFF : BitVec 8) 0xFF (cf false) = (lo, hi, f) ∧
      imul (0x80 : BitVec 8) 0x80 (cf false) = (lo', hi', f') ∧ (8 = 8 ∨ 8 = 16) :=
  ⟨_, _, _, _, _, _, rfl, rfl, .inl rfl⟩

/-- The largest dividend and divisor, the most negative ones, and a result of each division. -/
theorem witness_Quotients :
    (8 = 8 ∨ 8 = 16) ∧ (65535 < 2 ^ (2 * 8) ∧ 255 < 2 ^ 8) ∧
      ((-2 ^ (2 * 8 - 1) : Int) ≤ -32768 ∧ (-32768 : Int) < 2 ^ (2 * 8 - 1) ∧ (-2 ^ (8 - 1) : Int) ≤ -128 ∧
        (-128 : Int) < 2 ^ (8 - 1)) ∧
      (udivide 8 0xFEFF 0xFF).isSome = true ∧ (sdivide 8 (-16383) (-128)).isSome = true := by
  decide +kernel

/-- Each clause at the edge of its counts: multiples of the width and of the width and one, and the counts beside; a
table of ROT_OF_MULTI. -/
theorem witness_RotateBits :
    (8 % 8 = 0 ∧ defaultParams.rotEff0 = .noop) ∧
      ((8 : Nat) ≠ 0 ∧ { defaultParams with rotEff0 := .setcf }.rotEff0 = .setcf) ∧ 9 % (8 + 1) = 0 ∧ 7 % 8 ≠ 0 ∧
      9 % 8 ≠ 0 ∧ 8 % (8 + 1) ≠ 0 ∧ 10 % (8 + 1) ≠ 0 ∧ 1 % 8 = 1 ∧ defaultParams.rotOfMulti = .formula ∧
      { defaultParams with rotOfMulti := .table [(⟨.rol, .w8, 0x81, 4, false⟩, true)] }.rotOfMulti =
        .table [(⟨.rol, .w8, 0x81, 4, false⟩, true)] := by
  decide

theorem witness_ShiftBits :
    (8 = 8 ∨ 8 = 16) ∧ (1 : Nat) ≠ 0 ∧ defaultParams.shiftOf1 = .doc ∧ (255 : Nat) ≠ 0 ∧
      { defaultParams with shiftOf1 := .hw }.shiftOf1 = .hw ∧ defaultParams.shiftOfMulti = .formula ∧ (2 : Nat) ≠ 1 ∧
      { defaultParams with shiftOfMulti := .table [(⟨.shl, .w8, 0x01, 7⟩, false)] }.shiftOfMulti =
        .table [(⟨.shl, .w8, 0x01, 7⟩, false)] := by
  decide

theorem witness_FlagImageLaws : defaultParams.flagsFixedOnes &&& 0x0FD5 = 0 := by
  decide

/-- A register operand and a memory operand of the two widths, of which every access is answered. -/
theorem witness_operands :
    fresh S0 ∧ canRead8 S0 (.reg .bh) ∧ canWrite8 S0 (.reg .bh) ∧ canRead8 S0 (.mem (.direct 0xFFFF)) ∧
      canWrite8 S0 (.mem (.direct 0xFFFF)) ∧ canRead16 S0 (.reg .sp) ∧ canWrite16 S0 (.reg .sp) ∧
      canRead16 S0 (.mem (.direct 0xFFFF)) ∧ canWrite16 S0 (.mem (.direct 0xFFFF)) :=
  ⟨rfl, trivial, trivial, rfl, rfl, trivial, trivial, ⟨rfl, rfl⟩, rfl, rfl⟩

/-- S0 whose bus refuses every write to the data segment. -/
def sealed : State :=
  { S0 with bus := { S0.bus with refusals := [⟨0x2000, 0, 0xFFFF, false, true, .generalProtection⟩] } }

/-- An operand that can be read but not written back, for every statement of a refused write-back. -/
theorem witness_writeRefused :
    fresh sealed ∧ canRead8 sealed (.mem (.base .bx)) ∧ canRead16 sealed (.mem (.base .bx)) ∧
      AluOp.adc.writes = true ∧
      sealed.bus.refusal true (eaSeg sealed (.base .bx)) (eaOff sealed (.base .bx)) = some .generalProtection := by
  unfold fresh canRead8 canRead16 readable16 readable8
  decide +kernel

theorem witness_AluRegisterForms :
    fresh S0 ∧ canRead8 S0 (.mem (.disp8 .bp 0x80)) ∧ (AluOp.add.writes = true → canWrite8 S0 (.mem (.disp8 .bp 0x80))) ∧
      canRead16 S0 (.mem (.disp8 .bp 0x80)) ∧ (AluOp.cmp.writes = true → canWrite16 S0 (.mem (.disp8 .bp 0x80))) :=
  ⟨rfl, rfl, fun _ => rfl, ⟨rfl, rfl⟩, fun _ => ⟨rfl, rfl⟩⟩

theorem witness_AluImmediateForms :
    fresh S0 ∧ canRead8 S0 (.reg .ah) ∧ (AluOp.sub.writes = true → canWrite8 S0 (.reg .ah)) ∧
      canRead16 S0 (.mem (.base .bxDi)) ∧ (AluOp.sub.writes = true → canWrite16 S0 (.mem (.base .bxDi))) :=
  ⟨rfl, trivial, fun _ => trivial, ⟨rfl, rfl⟩, fun _ => ⟨rfl, rfl⟩⟩

theorem witness_UnaryForms :
    fresh S0 ∧ canRead8 S0 (.mem (.base .si)) ∧ canWrite8 S0 (.mem (.base .si)) ∧ canRead16 S0 (.mem (.base .si)) ∧
      canWrite16 S0 (.mem (.base .si)) :=
  ⟨rfl, rfl, rfl, ⟨rfl, rfl⟩, rfl, rfl⟩

theorem witness_TestForms : fresh S0 ∧ canRead8 S0 (.mem (.base .di)) ∧ canRead16 S0 (.mem (.base .di)) :=
  ⟨rfl, rfl, rfl, rfl⟩

theorem witness_MultiplyForms :
    fresh S0 ∧ canRead8 S0 (.reg .dh) ∧ canRead16 S0 (.mem (.base .bpSi)) ∧
      ∃ lo hi fe, imul (S0.reg8 .al) (operand8 S0 (.reg .dh)) S0.fe = (lo, hi, fe) :=
  ⟨rfl, trivial, ⟨rfl, rfl⟩, _, _, _, rfl⟩

/-- A quotient that fits and one that does not, for the four divisions. -/
theorem witness_DivideForms :
    (fresh S0 ∧ canRead8 S0 (.reg .dh) ∧ canRead16 S0 (.reg .dx)) ∧
      ((udivide 8 S0.regs.ax.toNat (operand8 S0 (.reg .dh)).toNat).isSome = true ∧
        udivide 8 S0.regs.ax.toNat (operand8 S0 (.reg .ch)).toNat = none) ∧
      ((sdivide 8 S0.regs.ax.toInt (operand8 S0 (.reg .dh)).toInt).isSome = true ∧
        sdivide 8 S0.regs.ax.toInt (operand8 S0 (.reg .ch)).toInt = none) ∧
      (let s := S0.setReg16 .dx 0;
      (udivide 16 (s.regs.dx.toNat * 2 ^ 16 + s.regs.ax.toNat) (operand16 s (.reg .bx)).toNat).isSome = true ∧
        (sdivide 16 (s.regs.dx.toInt * 2 ^ 16 + s.regs.ax.toNat) (operand16 s (.reg .bx)).toInt).isSome = true) ∧
      udivide 16 (S0.regs.dx.toNat * 2 ^ 16 + S0.regs.ax.toNat) (operand16 S0 (.reg .dx)).toNat = none ∧
      sdivide 16 (S0.regs.dx.toInt * 2 ^ 16 + S0.regs.ax.toNat) (operand16 S0 (.reg .bx)).toInt = none := by
  refine ⟨⟨rfl, trivial, trivial⟩, ?_⟩
  decide +kernel

theorem witness_ShiftForms :
    fresh S0 ∧ canRead8 S0 (.reg .cl) ∧ canWrite8 S0 (.reg .cl) ∧ canRead16 S0 (.mem (.direct 0)) ∧
      canWrite16 S0 (.mem (.direct 0)) :=
  ⟨rfl, trivial, trivial, ⟨rfl, rfl⟩, rfl, rfl⟩

/-- Both clauses of AAM: the base 0, and the bases at the ends of the others. -/
theorem witness_DecimalAdjust : (0 : Byte).toNat = 0 ∧ (1 : Byte).toNat ≠ 0 ∧ (0xFF : Byte).toNat ≠ 0 := by
  decide

theorem witness_FlagImageForms : canPush S0 ∧ canPop S0 0 := ⟨⟨rfl, rfl⟩, rfl, rfl⟩

theorem witness_MoveForms :
    fresh S0 ∧ canWrite8 S0 (.mem (.base .bx)) ∧ canWrite16 S0 (.mem (.base .bx)) ∧ canRead8 S0 (.mem (.base .bx)) ∧
      canRead16 S0 (.mem (.base .bx)) ∧ readable8 S0 (S0.segmentOr .ds) 0xFFFF ∧
      readable16 S0 (S0.segmentOr .ds) 0xFFFF ∧ writable8 S0 (S0.segmentOr .ds) 0xFFFF ∧
      writable16 S0 (S0.segmentOr .ds) 0xFFFF :=
  ⟨rfl, rfl, ⟨rfl, rfl⟩, rfl, ⟨rfl, rfl⟩, rfl, ⟨rfl, rfl⟩, rfl, rfl, rfl⟩

/-- Loads that SEG_LOAD_CHECK lets pass and refuses, and an executable selector for CS. -/
theorem witness_SegmentRegisterMoves :
    (fresh S0 ∧ canWrite16 S0 (.mem (.base .di)) ∧ canRead16 S0 (.reg .ax) ∧ canPush S0 ∧ canPop S0 0) ∧
      S0.hooks.segLoadFault .es 0x1234 = none ∧ S0.bus.isExecutable (operand16 S0 (.reg .ax)) = true ∧
      { S0.hooks with segLoad := some [⟨.ss, 0x1234, .segmentNotPresent⟩] }.segLoadFault .ss 0x1234 =
        some .segmentNotPresent :=
  ⟨⟨rfl, ⟨rfl, rfl⟩, trivial, ⟨rfl, rfl⟩, rfl, rfl⟩, rfl, rfl, rfl⟩

/-- Rows 92 and 93 of spec/95_test_vectors.md: an index inside its bounds and one below them; a selector that
SEG_LOAD_CHECK refuses. -/
theorem witness_AddressLoads :
    (fresh S0 ∧ pairReadable S0 (.base .bx) ∧ S0.hooks.segLoadFault .ds (pairHigh S0 (.base .bx)) = none ∧
        S0.hooks.segLoadFault .es (pairHigh S0 (.base .bx)) = none) ∧
      (let h : Hooks := { S0.hooks with segLoad := some [⟨.ds, 0, .generalProtection⟩, ⟨.es, 0, .segmentNotPresent⟩] };
      h.segLoadFault .ds (pairHigh S0 (.base .bx)) = some .generalProtection ∧
        h.segLoadFault .es (pairHigh S0 (.base .bx)) = some .segmentNotPresent) ∧
      (let s := placeBytes 0x2000 0x0200 [0x34, 0x12, 0x34, 0x12] S0;
      (pairLow s (.base .bx)).toInt ≤ (s.reg16 .ax).toInt ∧ (s.reg16 .ax).toInt ≤ (pairHigh s (.base .bx)).toInt) ∧
      (let s := placeBytes 0x2000 0x0200 [0x35, 0x12, 0x00, 0x30] S0;
      (s.reg16 .ax).toInt < (pairLow s (.base .bx)).toInt) ∧
      (let s := placeBytes 0x2000 0x0200 [0x00, 0x00, 0x33, 0x12] S0;
      (pairHigh s (.base .bx)).toInt < (s.reg16 .ax).toInt) := by
  refine ⟨⟨rfl, ⟨⟨rfl, rfl⟩, rfl, rfl⟩, rfl, rfl⟩, ?_⟩
  unfold pairLow pairHigh
  decide +kernel

theorem witness_ExchangeAndConvert :
    fresh S0 ∧ canRead8 S0 (.mem (.base .bx)) ∧ canWrite8 S0 (.mem (.base .bx)) ∧ canRead16 S0 (.reg .sp) ∧
      canWrite16 S0 (.reg .sp) ∧ readable8 S0 (S0.segmentOr .ds) (S0.regs.bx + (S0.reg8 .al).setWidth 16) :=
  ⟨rfl, rfl, rfl, trivial, trivial, rfl⟩

theorem witness_PushPopForms :
    fresh S0 ∧ canPush S0 ∧ canPop S0 0 ∧ canRead16 S0 (.reg .sp) ∧ canWrite16 S0 (.mem (.base .bx)) ∧
      (∀ off, writable8 S0 S0.sregs.ss off) ∧ ∀ off, readable8 S0 S0.sregs.ss off :=
  ⟨rfl, ⟨rfl, rfl⟩, ⟨rfl, rfl⟩, trivial, ⟨rfl, rfl⟩, fun _ => rfl, fun _ => rfl⟩

/-- PUSHA refused at its first and at its last push, POPA at its first and last pop, POP [BX] at its read and its
write. -/
theorem witness_PushPopForms_refused :
    (let s := refusing [⟨0x4000, 0xFE, 0xFE, false, true, .generalProtection⟩];
      (pushaWords s)[0]? = some s.regs.ax ∧ canPushAll s 0 ∧ pushRefused (pushedAll [] s) s.regs.ax .generalProtection s) ∧
      (let s := refusing [⟨0x4000, 0xF0, 0xF0, false, true, .generalProtection⟩];
      let u := pushedAll ((pushaWords s).take 7) s;
      (pushaWords s)[7]? = some s.regs.di ∧ canPushAll s 7 ∧ pushRefused u s.regs.di .generalProtection u) ∧
      (let s := refusing [⟨0x4000, 0x100, 0x100, true, false, .generalProtection⟩];
      wordReadRefused (poppedAll (popaOrder.take 0) s) 0x4000 0x100 .generalProtection ∧ fresh s ∧
        wordReadRefused s s.sregs.ss s.regs.sp .generalProtection) ∧
      (let s := refusing [⟨0x4000, 0x10F, 0x10F, true, false, .generalProtection⟩];
      let u := poppedAll (popaOrder.take 7) s;
      (∀ i < 7, canPop s (BitVec.ofNat 16 (2 * i))) ∧ wordReadRefused u u.sregs.ss u.regs.sp .generalProtection) ∧
      (let s := refusing [⟨0x2000, 0x200, 0x200, false, true, .generalProtection⟩];
      let o := (opened (modrm16 0 (.mem (.base .bx))) s).setSP (s.regs.sp + 2);
      fresh s ∧ canPop s 0 ∧
        wordWriteRefused o (eaSeg s (.base .bx)) (eaOff s (.base .bx)) (stacked s 0) .generalProtection o) := by
  unfold pushRefused canPushAll wordReadRefused wordWriteRefused canPop readable16 writable16 readable8 writable8 fresh
  refine ⟨?_, ?_, ?_, ?_, ?_⟩ <;> decide +kernel

/-- Levels 0 and 31, and the size 0xFFFF, are operands of ENTER like all others. -/
theorem witness_EnterAndLeave :
    (∀ off, readable8 S0 S0.sregs.ss off ∧ writable8 S0 S0.sregs.ss off) ∧ S0.mem.wf ∧
      readable16 S0 S0.sregs.ss S0.regs.bp ∧ (31 : Byte).toNat % 32 ≠ 0 ∧ (32 : Byte).toNat % 32 = 0 ∧
      completes (.enterImm16Imm8 0xFFFF 31) S0 = true ∧ copiesOpen S0 30 ∧
      writable16 S0 S0.sregs.ss (S0.regs.sp - 2 - BitVec.ofNat 16 (2 * 31)) :=
  ⟨fun _ => ⟨rfl, rfl⟩, by decide, ⟨rfl, rfl⟩, by decide, by decide, by decide +kernel,
    ⟨fun _ _ => ⟨rfl, rfl⟩, fun _ _ => ⟨rfl, rfl⟩⟩, rfl, rfl⟩

/-- LEAVE refused; ENTER with level 3 refused at the push of BP, at the read of its second copy, at the push of that
copy, at the push of the new BP. -/
theorem witness_EnterAndLeave_refused :
    (let s := refusing [⟨0x4000, 0x80, 0x80, true, false, .generalProtection⟩];
      wordReadRefused s s.sregs.ss s.regs.bp .generalProtection) ∧
      (let s := refusing [⟨0x4000, 0xFE, 0xFE, false, true, .generalProtection⟩];
      pushRefused s s.regs.bp .generalProtection s) ∧
      (let s := refusing [⟨0x4000, 0x7C, 0x7C, true, false, .generalProtection⟩];
      let u := (framesCopied 1 s.regs.bp (pushed s.regs.bp s)).setReg16 .bp (s.regs.bp - 4);
      1 + 1 < (3 : Byte).toNat % 32 ∧ copiesOpen s 1 ∧ wordReadRefused u u.sregs.ss u.regs.bp .generalProtection) ∧
      (let s := refusing [⟨0x4000, 0xFA, 0xFA, false, true, .generalProtection⟩];
      let u := (framesCopied 1 s.regs.bp (pushed s.regs.bp s)).setReg16 .bp (s.regs.bp - 4);
      copiesOpen s 1 ∧ readable16 u u.sregs.ss u.regs.bp ∧
        pushRefused u (u.wordAt u.sregs.ss u.regs.bp) .generalProtection u) ∧
      (let s := refusing [⟨0x4000, 0xF8, 0xF8, false, true, .generalProtection⟩];
      let u := (framesCopied 2 s.regs.bp (pushed s.regs.bp s)).setReg16 .bp (s.regs.bp - 4);
      copiesOpen s 2 ∧ pushRefused u (s.regs.sp - 2) .generalProtection u) := by
  unfold pushRefused copiesOpen canPushAll wordReadRefused wordWriteRefused readable16 writable16 readable8 writable8
  refine ⟨?_, ?_, ?_, ?_, ?_⟩ <;> decide +kernel

/-- Taken and not taken: JO, JCXZ, and LOOP with CX of 1. -/
theorem witness_JumpForms :
    (fresh S0 ∧ canRead16 S0 (.mem (.base .bx)) ∧ S0.bus.isExecutable 0xFFFF = true ∧ pairReadable S0 (.base .bx) ∧
        S0.bus.isExecutable (pairHigh S0 (.base .bx)) = true) ∧
      (S0.fe.of_ ≠ true ∧ { S0.fe with of_ := true }.of_ = true) ∧
      ((S0.setReg16 .cx 0).regs.cx = 0 ∧ S0.regs.cx ≠ 0) ∧ S0.regs.cx ≠ 1 ∧ ¬((S0.setReg16 .cx 1).regs.cx ≠ 1) := by
  refine ⟨⟨rfl, ⟨rfl, rfl⟩, rfl, ⟨⟨rfl, rfl⟩, rfl, rfl⟩, rfl⟩, ?_⟩
  decide

theorem witness_CallAndReturnForms :
    fresh S0 ∧ canRead16 S0 (.reg .sp) ∧ canPush S0 ∧ S0.bus.isExecutable 0xFFFF = true ∧
      writable16 S0 S0.sregs.ss (S0.regs.sp - 4) ∧ pairReadable S0 (.base .bx) ∧
      S0.bus.isExecutable (pairHigh S0 (.base .bx)) = true ∧ canPop S0 0 ∧ canPop S0 2 ∧
      S0.bus.isExecutable (stacked S0 2) = true ∧ canPop S0 4 :=
  ⟨rfl, trivial, ⟨rfl, rfl⟩, rfl, ⟨rfl, rfl⟩, ⟨⟨rfl, rfl⟩, rfl, rfl⟩, rfl, ⟨rfl, rfl⟩, ⟨rfl, rfl⟩, rfl, rfl, rfl⟩

/-- The push of a near CALL refused; the first and the second push of a far CALL. -/
theorem witness_CallAndReturnForms_refused :
    (let s := refusing [⟨0x4000, 0xFE, 0xFE, false, true, .generalProtection⟩];
      fresh s ∧ pushRefused s s.ip .generalProtection s ∧
        (let o := opened (modrm16 2 (.reg .sp)) s; pushRefused o s.ip .generalProtection o) ∧
        s.bus.isExecutable 0x5000 = true ∧ pushRefused s s.sregs.cs .generalProtection s) ∧
      (let s := refusing [⟨0x4000, 0xFC, 0xFC, false, true, .generalProtection⟩];
      let o := opened (modrmMem 3 (.base .bx)) s;
      fresh s ∧ pairReadable s (.base .bx) ∧ s.bus.isExecutable (pairHigh s (.base .bx)) = true ∧ canPush o ∧
        pushRefused (pushed o.sregs.cs o) o.ip .generalProtection (pushed o.sregs.cs o)) := by
  unfold pushRefused wordWriteRefused pairReadable canPush readable16 writable16 readable8 writable8 fresh
  refine ⟨?_, ?_⟩ <;> decide +kernel

/-- No debugger, one with no answer left, OF set and clear, and a debugger that answers no and yes. -/
theorem witness_SoftwareInterruptForms :
    S0.hooks.debug = none ∧ (∃ c, { S0.hooks with debug := some ⟨[], []⟩ }.debug = some ⟨c, []⟩) ∧ S0.fe.of_ = false ∧
      { S0.fe with of_ := true }.of_ = true ∧
      { S0.hooks with debug := some ⟨[], [⟨false, []⟩, ⟨true, []⟩]⟩ }.debug = some ⟨[], ⟨false, []⟩ :: [⟨true, []⟩]⟩ :=
  ⟨rfl, ⟨_, rfl⟩, rfl, rfl, rfl⟩

theorem witness_StringElements :
    S0.rep = .none ∧ readable8 S0 (S0.segmentOr .ds) S0.regs.si ∧ readable16 S0 (S0.segmentOr .ds) S0.regs.si ∧
      readable8 S0 S0.sregs.es S0.regs.di ∧ readable16 S0 S0.sregs.es S0.regs.di ∧
      writable8 S0 S0.sregs.es S0.regs.di ∧ writable16 S0 S0.sregs.es S0.regs.di :=
  ⟨rfl, rfl, ⟨rfl, rfl⟩, rfl, ⟨rfl, rfl⟩, rfl, rfl, rfl⟩

/-- CX of 0, an iteration that completes and goes on or stops, and one that raises a fault. -/
theorem witness_RepeatPrefixLoop :
    let s : State := { S0 with rep := .rep }
    s.rep ≠ .none ∧ (s.setReg16 .cx 0).regs.cx = 0 ∧ s.regs.cx ≠ 0 ∧
      (match cmps8 s with
        | .ok _ t => t.fe.zf
        | .raise _ _ => false) = true ∧
      (match cmps8 { s with rep := .repNe } with
        | .ok _ t => t.fe.zf
        | .raise _ _ => false) = true ∧
      (match movs8 { s with bus := { s.bus with refusals := [⟨0x3000, 0, 0xFFFF, true, true, .generalProtection⟩] } } with
        | .ok _ _ => false
        | .raise f _ => decide (f = .generalProtection)) = true := by
  decide +kernel

/-- CX of 0xFFFF, source and destination in different segments that share no byte of the low addresses. -/
theorem witness_RepMovsbCopies :
    (let s : State := { S0 with rep := .repNe, regs := { S0.regs with cx := 0xFFFF } };
    s.rep ≠ .none ∧ (∀ off, readable8 s (s.segmentOr .ds) off) ∧ (∀ off, writable8 s s.sregs.es off)) ∧
      (let s : State := { S0 with rep := .rep };
      s.mem.wf ∧ ∀ j < s.regs.cx.toNat, ∀ k < s.regs.cx.toNat,
        busAddr s.bus.map (s.segmentOr .ds) (stringOff s s.regs.si j) ≠
          busAddr s.bus.map s.sregs.es (stringOff s s.regs.di k)) := by
  refine ⟨⟨by decide, fun _ => rfl, fun _ => rfl⟩, by decide, ?_⟩
  unfold stringOff
  decide +kernel

theorem witness_SystemForms :
    fresh S0 ∧ S0.params.esc = .nop ∧ { S0.params with esc := .invalid }.esc = .invalid ∧
      Instr.prefixLock.isPrefix = true :=
  ⟨rfl, rfl, rfl, rfl⟩

/-- An instruction that dispatches, one of no clause's exceptions. -/
theorem witness_WhatNoInstructionChanges :
    armed.hooks.debug = none ∧ armed.hooks.hostInt = none ∧ completes (.intImm8 0xFF) armed = true ∧
      Instr.intImm8 0xFF ≠ .hlt ∧ (Instr.intImm8 0xFF).isPrefix = false ∧
      Instr.intImm8 0xFF ∉ [.cld, .std, .popf, .iret] ∧ Instr.intImm8 0xFF ∉ [.sti, .popf, .iret] := by
  decide +kernel

/-! ### Witnesses of the frames: the operand is readable and writable, and the instruction completes -/

/-- The hypotheses of a frame law are met at a state. -/
def Meets (s : State) (i : Instr) (pre : State → Prop) : Prop := fresh s ∧ pre s ∧ completes i s = true

/-- All of a list of hypotheses are met. -/
def AllMet (s : State) : List (Instr × (State → Prop)) → Prop
  | [] => True
  | (i, p) :: t => Meets s i p ∧ AllMet s t

/-- S0 with a dividend DX:AX whose quotient by BX fits. -/
def S1 : State := S0.setReg16 .dx 0

theorem refusal_S1 (w : Bool) (seg off : Word) : S1.bus.refusal w seg off = none := rfl

theorem fresh_S1 : fresh S1 := rfl

theorem witness_FrameOfStoringForms_bytes :
    AllMet S0
      [(aluRmR8Of .adc (.mem (.base .bx)) .ch, fun s => canRead8 s (.mem (.base .bx)) ∧ canWrite8 s (.mem (.base .bx))),
        (aluRmImm8Of .sbb (.mem (.base .bx)) 0xFF, fun s => canRead8 s (.mem (.base .bx)) ∧ canWrite8 s (.mem (.base .bx))),
        (aluRmImm8Op82Of .or (.mem (.base .bx)) 0xFF, fun s => canRead8 s (.mem (.base .bx)) ∧ canWrite8 s (.mem (.base .bx))),
        (.incRm8 (.mem (.base .bx)), fun s => canRead8 s (.mem (.base .bx)) ∧ canWrite8 s (.mem (.base .bx))),
        (.decRm8 (.reg .ah), fun s => canRead8 s (.reg .ah) ∧ canWrite8 s (.reg .ah)),
        (.negRm8 (.mem (.base .bx)), fun s => canRead8 s (.mem (.base .bx)) ∧ canWrite8 s (.mem (.base .bx))),
        (shiftRm8By1Of .rcl (.mem (.base .bx)), fun s => canRead8 s (.mem (.base .bx)) ∧ canWrite8 s (.mem (.base .bx))),
        (shiftRm8ClOf .sar (.reg .cl), fun s => canRead8 s (.reg .cl) ∧ canWrite8 s (.reg .cl)),
        (shiftRmImm8Of .rol (.mem (.base .bx)) 0xFF, fun s => canRead8 s (.mem (.base .bx)) ∧ canWrite8 s (.mem (.base .bx))),
        (.notRm8 (.mem (.base .bx)), fun s => canRead8 s (.mem (.base .bx)) ∧ canWrite8 s (.mem (.base .bx))),
        (.movRm8R8 (.mem (.base .bx)) .ah, fun s => canRead8 s (.mem (.base .bx)) ∧ canWrite8 s (.mem (.base .bx))),
        (.movRm8Imm8 (.mem (.base .bx)) 0, fun s => canRead8 s (.mem (.base .bx)) ∧ canWrite8 s (.mem (.base .bx))),
        (.xchgRm8R8 (.mem (.base .bx)) .bl, fun s => canRead8 s (.mem (.base .bx)) ∧ canWrite8 s (.mem (.base .bx)))] := by
  simp only [AllMet, Meets, fresh_S0, canRead8, canWrite8, readable8, writable8,
    refusal_S0, and_self, true_and, and_true]
  decide +kernel

theorem witness_FrameOfStoringForms_words :
    AllMet S0
      [(aluRmR16Of .xor (.mem (.disp8 .bp 0xFF)) .sp, fun s => canRead16 s (.mem (.disp8 .bp 0xFF)) ∧ canWrite16 s (.mem (.disp8 .bp 0xFF))),
        (aluRmImm16Of .add (.mem (.disp8 .bp 0xFF)) 0xFFFF, fun s => canRead16 s (.mem (.disp8 .bp 0xFF)) ∧ canWrite16 s (.mem (.disp8 .bp 0xFF))),
        (aluRmImm8sOf .and (.mem (.disp8 .bp 0xFF)) 0x80, fun s => canRead16 s (.mem (.disp8 .bp 0xFF)) ∧ canWrite16 s (.mem (.disp8 .bp 0xFF))),
        (.incRm16 (.mem (.disp8 .bp 0xFF)), fun s => canRead16 s (.mem (.disp8 .bp 0xFF)) ∧ canWrite16 s (.mem (.disp8 .bp 0xFF))),
        (.decRm16 (.mem (.disp8 .bp 0xFF)), fun s => canRead16 s (.mem (.disp8 .bp 0xFF)) ∧ canWrite16 s (.mem (.disp8 .bp 0xFF))),
        (.negRm16 (.mem (.disp8 .bp 0xFF)), fun s => canRead16 s (.mem (.disp8 .bp 0xFF)) ∧ canWrite16 s (.mem (.disp8 .bp 0xFF))),
        (shiftRm16By1Of .shr (.mem (.disp8 .bp 0xFF)), fun s => canRead16 s (.mem (.disp8 .bp 0xFF)) ∧ canWrite16 s (.mem (.disp8 .bp 0xFF))),
        (shiftRm16ClOf .ror (.mem (.disp8 .bp 0xFF)), fun s => canRead16 s (.mem (.disp8 .bp 0xFF)) ∧ canWrite16 s (.mem (.disp8 .bp 0xFF))),
        (shiftRm16ImmOf .rcr (.mem (.disp8 .bp 0xFF)) 0, fun s => canRead16 s (.mem (.disp8 .bp 0xFF)) ∧ canWrite16 s (.mem (.disp8 .bp 0xFF))),
        (.notRm16 (.mem (.disp8 .bp 0xFF)), fun s => canRead16 s (.mem (.disp8 .bp 0xFF)) ∧ canWrite16 s (.mem (.disp8 .bp 0xFF))),
        (.movRm16R16 (.mem (.disp8 .bp 0xFF)) .di, fun s => canRead16 s (.mem (.disp8 .bp 0xFF)) ∧ canWrite16 s (.mem (.disp8 .bp 0xFF))),
        (.movRm16Imm16 (.mem (.disp8 .bp 0xFF)) 0, fun s => canRead16 s (.mem (.disp8 .bp 0xFF)) ∧ canWrite16 s (.mem (.disp8 .bp 0xFF))),
        (.movRm16Es (.mem (.disp8 .bp 0xFF)), fun s => canRead16 s (.mem (.disp8 .bp 0xFF)) ∧ canWrite16 s (.mem (.disp8 .bp 0xFF))),
        (.movRm16Cs (.mem (.disp8 .bp 0xFF)), fun s => canRead16 s (.mem (.disp8 .bp 0xFF)) ∧ canWrite16 s (.mem (.disp8 .bp 0xFF))),
        (.movRm16Ss (.mem (.disp8 .bp 0xFF)), fun s => canRead16 s (.mem (.disp8 .bp 0xFF)) ∧ canWrite16 s (.mem (.disp8 .bp 0xFF))),
        (.movRm16Ds (.mem (.disp8 .bp 0xFF)), fun s => canRead16 s (.mem (.disp8 .bp 0xFF)) ∧ canWrite16 s (.mem (.disp8 .bp 0xFF))),
        (.xchgRm16R16 (.mem (.disp8 .bp 0xFF)) .bp, fun s => canRead16 s (.mem (.disp8 .bp 0xFF)) ∧ canWrite16 s (.mem (.disp8 .bp 0xFF))),
        (.movMoffs8Al 0xFFFF, fun s => writable8 s (s.segmentOr .ds) 0xFFFF),
        (.movMoffs16Ax 0xFFFF, fun s => writable16 s (s.segmentOr .ds) 0xFFFF)] := by
  simp only [AllMet, Meets, fresh_S0, canRead16, canWrite16, readable8, readable16, writable8, writable16,
    refusal_S0, and_self, true_and, and_true]
  decide +kernel

theorem witness_FrameOfFormsWithoutStore_operands :
    AllMet S0
      [(.cmpRm8R8 (.mem (.base .bx)) .al, fun s => canRead8 s (.mem (.base .bx))),
        (.cmpR8Rm8 .al (.mem (.base .bx)), fun s => canRead8 s (.mem (.base .bx))),
        (.testRm8R8 (.mem (.base .bx)) .al, fun s => canRead8 s (.mem (.base .bx))),
        (.cmpRm16R16 (.mem (.disp8 .bp 0xFF)) .ax, fun s => canRead16 s (.mem (.disp8 .bp 0xFF))),
        (.cmpR16Rm16 .ax (.mem (.disp8 .bp 0xFF)), fun s => canRead16 s (.mem (.disp8 .bp 0xFF))),
        (.testRm16R16 (.mem (.disp8 .bp 0xFF)) .ax, fun s => canRead16 s (.mem (.disp8 .bp 0xFF))),
        (.cmpRm8Imm8 (.mem (.base .bx)) 1, fun s => canRead8 s (.mem (.base .bx))),
        (.cmpRm8Imm8Op82 (.mem (.base .bx)) 1, fun s => canRead8 s (.mem (.base .bx))),
        (.testRm8Imm8 (.mem (.base .bx)) 1, fun s => canRead8 s (.mem (.base .bx))),
        (.cmpRm16Imm16 (.mem (.disp8 .bp 0xFF)) 1, fun s => canRead16 s (.mem (.disp8 .bp 0xFF))),
        (.testRm16Imm16 (.mem (.disp8 .bp 0xFF)) 1, fun s => canRead16 s (.mem (.disp8 .bp 0xFF))),
        (.cmpRm16Imm8s (.mem (.disp8 .bp 0xFF)) 1, fun s => canRead16 s (.mem (.disp8 .bp 0xFF))),
        (aluRRm8Of .sub .bh (.mem (.base .bx)), fun s => canRead8 s (.mem (.base .bx))),
        (aluRRm16Of .sub .si (.mem (.disp8 .bp 0xFF)), fun s => canRead16 s (.mem (.disp8 .bp 0xFF))),
        (aluAlImmOf .adc 0xFF, fun _ => True),
        (aluAxImmOf .sbb 0xFFFF, fun _ => True),
        (.testAlImm8 0, fun _ => True),
        (.testAxImm16 0, fun _ => True),
        (.incR16 .sp, fun _ => True),
        (.decR16 .sp, fun _ => True)] := by
  simp only [AllMet, Meets, fresh_S0, canRead8, canRead16, readable8, readable16,
    refusal_S0, and_self, true_and, and_true]
  decide +kernel

theorem witness_FrameOfFormsWithoutStore_others :
    AllMet S0
      [(.mulRm8 (.mem (.base .bx)), fun s => canRead8 s (.mem (.base .bx))),
        (.imulRm8 (.mem (.base .bx)), fun s => canRead8 s (.mem (.base .bx))),
        (.divRm8 (.reg .dh), fun s => canRead8 s (.reg .dh) ∧ udivide 8 s.regs.ax.toNat (operand8 s (.reg .dh)).toNat ≠ none),
        (.idivRm8 (.reg .dh), fun s => canRead8 s (.reg .dh) ∧ sdivide 8 s.regs.ax.toInt (operand8 s (.reg .dh)).toInt ≠ none),
        (.mulRm16 (.mem (.disp8 .bp 0xFF)), fun s => canRead16 s (.mem (.disp8 .bp 0xFF))),
        (.imulRm16 (.mem (.disp8 .bp 0xFF)), fun s => canRead16 s (.mem (.disp8 .bp 0xFF))),
        (.imulR16Rm16Imm16 .cx (.mem (.disp8 .bp 0xFF)) 2, fun s => canRead16 s (.mem (.disp8 .bp 0xFF))),
        (.imulR16Rm16Imm8s .cx (.mem (.disp8 .bp 0xFF)) 2, fun s => canRead16 s (.mem (.disp8 .bp 0xFF))),
        (.movR16Rm16 .cx (.mem (.disp8 .bp 0xFF)), fun s => canRead16 s (.mem (.disp8 .bp 0xFF))),
        (.movR8Rm8 .dh (.mem (.base .bx)), fun s => canRead8 s (.mem (.base .bx))),
        (.movR8Imm8 .ah 1, fun _ => True),
        (.movR16Imm16 .bp 1, fun _ => True),
        (.movAlMoffs8 0, fun s => readable8 s (s.segmentOr .ds) 0),
        (.movAxMoffs16 0xFFFF, fun s => readable16 s (s.segmentOr .ds) 0xFFFF),
        (.leaR16M .bx (.base .bxSi), fun _ => True),
        (.xlat, fun s => readable8 s (s.segmentOr .ds) (s.regs.bx + (s.reg8 .al).setWidth 16)),
        (.cbw, fun _ => True),
        (.cwd, fun _ => True),
        (.xchgAxCx, fun _ => True),
        (.xchgAxDx, fun _ => True),
        (.xchgAxBx, fun _ => True),
        (.xchgAxSp, fun _ => True),
        (.xchgAxBp, fun _ => True),
        (.xchgAxSi, fun _ => True),
        (.xchgAxDi, fun _ => True),
        (.lahf, fun _ => True),
        (.sahf, fun _ => True)] := by
  simp only [AllMet, Meets, fresh_S0, canRead8, canRead16, readable8, readable16,
    refusal_S0, and_self, true_and, and_true]
  decide +kernel

theorem witness_FrameOfFormsWithoutStore_divide :
    AllMet S1
      [(.divRm16 (.reg .bx), fun s => canRead16 s (.reg .bx) ∧ udivide 16 (s.regs.dx.toNat * 2 ^ 16 + s.regs.ax.toNat) (operand16 s (.reg .bx)).toNat ≠ none),
        (.idivRm16 (.reg .bx), fun s => canRead16 s (.reg .bx) ∧ sdivide 16 (s.regs.dx.toInt * 2 ^ 16 + s.regs.ax.toNat) (operand16 s (.reg .bx)).toInt ≠ none)] := by
  simp only [AllMet, Meets, fresh_S1, canRead16,
    true_and, and_true]
  decide +kernel

theorem witness_FrameOfStackForms :
    AllMet S0
      [(.pushR16 .sp, fun s => canPush s),
        (.pushRm16 (.mem (.base .bx)), fun s => canRead16 s (.mem (.base .bx)) ∧ canPush s),
        (.callRm16 (.reg .bx), fun s => canRead16 s (.reg .bx) ∧ canPush s),
        (.popRm16 (.mem (.base .bx)), fun s => canPop s 0 ∧ canWrite16 s (.mem (.base .bx))),
        (.pushImm16 0, fun s => canPush s),
        (.callRel16 0xFF00, fun s => canPush s),
        (.retImm16 0xFFFF, fun s => canPop s 0),
        (.pushImm8s 0x80, fun s => canPush s),
        (.pushEs, fun s => canPush s),
        (.pushCs, fun s => canPush s),
        (.pushSs, fun s => canPush s),
        (.pushDs, fun s => canPush s),
        (.pushf, fun s => canPush s),
        (.popR16 .sp, fun s => canPop s 0),
        (.ret, fun s => canPop s 0),
        (.leave, fun s => readable16 s s.sregs.ss s.regs.bp)] := by
  simp only [AllMet, Meets, fresh_S0, canRead16, canWrite16, readable8, readable16, writable8, writable16,
    canPush, canPop, refusal_S0, and_self, true_and, and_true]
  decide +kernel

theorem segLoadFault_S0 (r : SReg) (v : Word) : S0.hooks.segLoadFault r v = none := rfl

theorem isExecutable_S0 (v : Word) : S0.bus.isExecutable v = true := rfl

theorem witness_FrameOfStoringForms_strings :
    AllMet S0
      [(.movsb, fun s => s.rep = .none ∧ elementRead8 s ∧ elementWrite8 s),
        (.movsw, fun s => s.rep = .none ∧ elementRead16 s ∧ elementWrite16 s),
        (.stosb, fun s => s.rep = .none ∧ elementWrite8 s),
        (.stosw, fun s => s.rep = .none ∧ elementWrite16 s),
        (.insb, fun s => s.rep = .none ∧ elementWrite8 s),
        (.insw, fun s => s.rep = .none ∧ elementWrite16 s)] := by
  simp only [AllMet, Meets, fresh_S0, readable8, readable16, writable8, writable16,
    refusal_S0, and_self, true_and, and_true, elementRead8, elementRead16,
    elementWrite8, elementWrite16]
  decide +kernel

theorem witness_FrameOfFormsWithoutStore_reach :
    AllMet S0
      [(.ldsR16M .bp (.base .bx), fun s => pairReadable s (.base .bx) ∧ s.hooks.segLoadFault .ds (pairHigh s (.base .bx)) = none),
        (.lesR16M .sp (.base .bx), fun s => pairReadable s (.base .bx) ∧ s.hooks.segLoadFault .es (pairHigh s (.base .bx)) = none),
        (.movEsRm16 (.reg .ax), fun s => canRead16 s (.reg .ax) ∧ s.hooks.segLoadFault .es (operand16 s (.reg .ax)) = none),
        (.movCsRm16 (.reg .ax), fun s => canRead16 s (.reg .ax) ∧ s.bus.isExecutable (operand16 s (.reg .ax)) = true),
        (.movSsRm16 (.mem (.base .bx)), fun s => canRead16 s (.mem (.base .bx)) ∧ s.hooks.segLoadFault .ss (operand16 s (.mem (.base .bx))) = none),
        (.movDsRm16 (.mem (.base .bx)), fun s => canRead16 s (.mem (.base .bx)) ∧ s.hooks.segLoadFault .ds (operand16 s (.mem (.base .bx))) = none),
        (.inAlImm8 0xFF, fun _ => True),
        (.inAxImm8 0xFF, fun _ => True),
        (.outImm8Al 0xFF, fun _ => True),
        (.outImm8Ax 0xFF, fun _ => True),
        (.inAlDx, fun _ => True),
        (.inAxDx, fun _ => True),
        (.outDxAl, fun _ => True),
        (.outDxAx, fun _ => True),
        (.lodsb, fun s => s.rep = .none ∧ elementRead8 s),
        (.lodsw, fun s => s.rep = .none ∧ elementRead16 s),
        (.outsb, fun s => s.rep = .none ∧ elementRead8 s),
        (.outsw, fun s => s.rep = .none ∧ elementRead16 s),
        (.cmpsb, fun s => s.rep = .none ∧ elementRead8 s ∧ readable8 s s.sregs.es s.regs.di),
        (.cmpsw, fun s => s.rep = .none ∧ elementRead16 s ∧ readable16 s s.sregs.es s.regs.di),
        (.scasb, fun s => s.rep = .none ∧ readable8 s s.sregs.es s.regs.di),
        (.scasw, fun s => s.rep = .none ∧ readable16 s s.sregs.es s.regs.di)] := by
  simp only [AllMet, Meets, fresh_S0, canRead16, readable8, readable16,
    refusal_S0, and_self, true_and, and_true, pairReadable, elementRead8, elementRead16,
    segLoadFault_S0, isExecutable_S0]
  decide +kernel

/-- An index inside its bounds. -/
theorem witness_FrameOfFormsWithoutStore_bound :
    let s := placeBytes 0x2000 0x0200 [0x34, 0x12, 0x34, 0x12] S0
    (fresh s ∧ pairReadable s (.base .bx)) ∧ (pairLow s (.base .bx)).toInt ≤ (s.reg16 .ax).toInt ∧
      (s.reg16 .ax).toInt ≤ (pairHigh s (.base .bx)).toInt ∧ completes (.boundR16M .ax (.base .bx)) s = true := by
  refine ⟨⟨rfl, ⟨rfl, rfl⟩, rfl, rfl⟩, ?_⟩
  unfold pairLow pairHigh
  decide +kernel

theorem witness_FrameOfStackForms_reach :
    AllMet S0
      [(.callFarDirect 0xFFFF 0x5000, fun s => s.bus.isExecutable 0x5000 = true ∧ canPushTwo s),
        (.callFarMem (.base .bx), fun s => pairReadable s (.base .bx) ∧ s.bus.isExecutable (pairHigh s (.base .bx)) = true ∧ canPushTwo s),
        (.retf, fun s => canReturnFar s),
        (.retfImm16 0xFFFF, fun s => canReturnFar s),
        (.iret, fun s => canReturnFar s ∧ canPop s 4),
        (.popf, fun s => canPop s 0),
        (.pusha, fun s => ∀ off, writable8 s s.sregs.ss off),
        (.popa, fun s => ∀ off, readable8 s s.sregs.ss off),
        (.popEs, fun s => canPop s 0 ∧ s.hooks.segLoadFault .es (stacked s 0) = none),
        (.popSs, fun s => canPop s 0 ∧ s.hooks.segLoadFault .ss (stacked s 0) = none),
        (.popDs, fun s => canPop s 0 ∧ s.hooks.segLoadFault .ds (stacked s 0) = none)] := by
  simp only [AllMet, Meets, fresh_S0, readable8, readable16, writable8, writable16,
    canPush, canPop, refusal_S0, and_self, true_and, and_true, implies_true, pairReadable,
    canPushTwo, canReturnFar, segLoadFault_S0, isExecutable_S0]
  decide +kernel

end Sys2Proof.Tests
end

section
/-! Byte registers as halves of word registers (10_state R52 to R54): a byte register's port is written once through the
port of the word register it is half of, and reads after writes then follow from the laws of the word registers. -/

namespace Sys2Proof.Machine
open Claims (parentReg)

theorem parentReg_eq_ofNum (r : Reg8) : parentReg r = Reg16.ofNum (BitVec.ofNat 3 (r.num.toNat % 4)) := by
  cases r <;> rfl

/-- `ReadReg8` as a read of the word register's half (10_state R54). -/
theorem State.reg8_eq_half (s : State) (r : Reg8) :
    s.reg8 r = if r.num.toNat < 4 then lo8 (s.reg16 (parentReg r)) else hi8 (s.reg16 (parentReg r)) := by
  cases r <;> rfl

/-- `WriteReg8` as a write of the word register with the other half kept (10_state R54). -/
theorem State.setReg8_eq_setReg16 (s : State) (r : Reg8) (v : Byte) :
    s.setReg8 r v = s.setReg16 (parentReg r)
      (if r.num.toNat < 4 then word16 (hi8 (s.reg16 (parentReg r))) v
        else word16 v (lo8 (s.reg16 (parentReg r)))) := by
  cases r <;> rfl

theorem State.reg16_setReg8_parentReg (s : State) (r : Reg8) (v : Byte) :
    (s.setReg8 r v).reg16 (parentReg r) =
      if r.num.toNat < 4 then word16 (hi8 (s.reg16 (parentReg r))) v
        else word16 v (lo8 (s.reg16 (parentReg r))) := by
  rw [State.setReg8_eq_setReg16, State.reg16_setReg16]

theorem State.reg16_setReg8_of_ne (s : State) {r : Reg8} {q : Reg16} (v : Byte) (h : q ≠ parentReg r) :
    (s.setReg8 r v).reg16 q = s.reg16 q := by
  rw [State.setReg8_eq_setReg16, State.reg16_setReg16_of_ne s _ h]

/-- Settles O18: a byte register's port is a port of its parent word register, the other half carried along. -/
theorem byteRegistersAlias : Obligations.ByteRegistersAlias := by
  intro s r v p
  have hp : p = parentReg r := (parentReg_eq_ofNum r).symm
  rw [hp]
  exact ⟨s.reg8_eq_half r, s.reg16_setReg8_parentReg r v, fun _ h => s.reg16_setReg8_of_ne v h⟩

end Sys2Proof.Machine
end

section
/-! The checked write of CS (10_state R64, R65), by the bus's answer to the executable query. -/

namespace Sys2Proof.Machine

theorem writeCS_of_executable {s : State} {sel : Word} (h : s.bus.isExecutable sel = true) :
    writeCS sel s = .done (s.setSReg .cs sel) := by
  simp [writeCS, checkCS, h]

theorem writeCS_of_not_executable {s : State} {sel : Word} (h : s.bus.isExecutable sel = false) :
    writeCS sel s = .raise (.nonExecutableSegment sel) s := by
  simp [writeCS, checkCS, h]

/-- Settles O22: by the two answers of the bus, which are membership of its non-executable selectors. -/
theorem writeCSIsValidated : Obligations.WriteCSIsValidated := by
  intro s sel
  cases hc : s.bus.nonExec.contains sel with
  | true => exact writeCS_of_not_executable (by simp only [Bus.isExecutable, hc, Bool.not_true])
  | false => exact writeCS_of_executable (by simp only [Bus.isExecutable, hc, Bool.not_false])

end Sys2Proof.Machine
end

section
/-! The single-flag forms (45 section 1): an equation for each, CF's writes through the record rule of 10_state R94. -/

namespace Sys2Proof.Machine
open Claims (withCarry)

/-- The model's write of CF is the write R94 states: CF and its source, with the rest of the record kept. -/
theorem setFlags_setCarry_eq_withCarry (s : State) (v : Bool) :
    s.setFlags (s.fe.setCarry v) = withCarry s v := rfl

theorem exec_clc (s : State) : exec .clc s = .next (s.setFlags (s.fe.setCarry false)) := rfl

theorem exec_stc (s : State) : exec .stc s = .next (s.setFlags (s.fe.setCarry true)) := rfl

theorem exec_cli (s : State) : exec .cli s = .next (s.setFlags { s.fe with if_ := false }) := rfl

theorem exec_sti (s : State) : exec .sti s = .next (s.setFlags { s.fe with if_ := true }) := rfl

theorem exec_cld (s : State) : exec .cld s = .next (s.setFlags { s.fe with df := false }) := rfl

theorem exec_std (s : State) : exec .std s = .next (s.setFlags { s.fe with df := true }) := rfl

/-- Settles O41: each form's equation, with the two writes of CF brought to R94's. -/
theorem singleFlagForms : Obligations.SingleFlagForms := by
  intro s
  have carry : exec .clc s = .next (withCarry s false) ∧ exec .stc s = .next (withCarry s true) := by
    simp only [exec_clc, exec_stc, setFlags_setCarry_eq_withCarry, and_self]
  exact ⟨carry, exec_cli s, exec_sti s, exec_cld s, exec_std s⟩

end Sys2Proof.Machine
end

section
/-! The end of a slot (60_exceptions R640, R661): the interrupt check by its three cases, and the step of a running
machine whose instruction leaves it running as that check of the state the instruction ends in. -/

namespace Sys2Proof.Machine

theorem interruptCheck_of_pending {s : State} {n : Byte} (hp : s.pending = some n) (hif : s.fe.if_ = true) :
    interruptCheck s = dispatch n .hardware none { s with pending := none } := by
  simp only [interruptCheck, hp, hif, if_true]

theorem interruptCheck_of_not_pending {s : State} (hp : s.pending = none) : interruptCheck s = s := by
  simp only [interruptCheck, hp]

theorem interruptCheck_of_if_clear {s : State} (hif : s.fe.if_ = false) : interruptCheck s = s := by
  cases hp : s.pending with
  | none => exact interruptCheck_of_not_pending hp
  | some n => simp only [interruptCheck, hp, hif, Bool.false_eq_true, if_false]

theorem endSlot_of_not_fatal {s : State} (hf : s.fatal = none) : endSlot s = interruptCheck s := by
  simp only [endSlot, hf]

theorem step_of_running {s : State} (hf : s.fatal = none) (hh : s.halted = false) : step s = runSlot s := by
  simp only [step, hf, hh, Bool.false_eq_true, if_false]

theorem runSlot_of_next {s u : State} (hb : slotBody slotFuel (beginSlot s) = .next u) :
    runSlot s = .next (endSlot u) := by
  simp only [runSlot, hb]

/-- Settles O13: the step is the interrupt check of the state the instruction ends in, and the check has three cases. -/
theorem interruptCheckEndsEverySlot : Obligations.InterruptCheckEndsEverySlot := by
  intro s u hf hh hb hu
  have checked : step s = .next (interruptCheck u) := by
    rw [step_of_running hf hh, runSlot_of_next hb, endSlot_of_not_fatal hu]
  refine ⟨fun n hif hp => ?_, fun hif => ?_, fun hp => ?_⟩
  · rw [checked, interruptCheck_of_pending hp hif]
  · rw [checked, interruptCheck_of_if_clear hif]
  · rw [checked, interruptCheck_of_not_pending hp]

end Sys2Proof.Machine
end

section
/-! The decoder reads back what the encoder wrote (30_encoding R170 to R210): one lemma for each shape of the opcode map,
then every instruction by the shape of its opcode. -/

namespace Sys2Proof.Machine

theorem decode_cons (op : Byte) (t : List Byte) : decode (op :: t) = (opShape op.toNat).finish op t := rfl

theorem decode_plain {op : Byte} {i : Instr} (hs : opShape op.toNat = .plain i) (rest : List Byte) :
    decode ([op] ++ rest) = .ok (i, rest) := by
  simp only [List.cons_append, List.nil_append, decode_cons, hs, Shape.finish]

theorem decode_imm8 {op : Byte} {f : Byte → Instr} (hs : opShape op.toNat = .imm8 f) (b : Byte) (rest : List Byte) :
    decode ([op, b] ++ rest) = .ok (f b, rest) := by
  simp only [List.cons_append, List.nil_append, decode_cons, hs, Shape.finish]

theorem decode_imm16 {op : Byte} {f : Word → Instr} (hs : opShape op.toNat = .imm16 f) (v : Word) (rest : List Byte) :
    decode (op :: wordBytes v ++ rest) = .ok (f v, rest) := by
  simp only [wordBytes, List.cons_append, List.nil_append, decode_cons, hs, Shape.finish, word16_hi8_lo8]

theorem decode_imm16Imm8 {op : Byte} {f : Word → Byte → Instr} (hs : opShape op.toNat = .imm16Imm8 f) (v : Word)
    (b : Byte) (rest : List Byte) : decode (op :: (wordBytes v ++ [b]) ++ rest) = .ok (f v b, rest) := by
  simp only [wordBytes, List.cons_append, List.nil_append, decode_cons, hs, Shape.finish, word16_hi8_lo8]

theorem decode_far {op : Byte} {f : Word → Word → Instr} (hs : opShape op.toNat = .far f) (u v : Word)
    (rest : List Byte) : decode (op :: (wordBytes u ++ wordBytes v) ++ rest) = .ok (f u v, rest) := by
  simp only [wordBytes, List.cons_append, List.nil_append, decode_cons, hs, Shape.finish, word16_hi8_lo8]

section
variable {op : Byte} {g : BitVec 3} {f : BitVec 3 → RmShape} {i : Instr}

theorem decode_rm8 {F : Rm Reg8 → Instr} {rm : Rm Reg8} (hs : opShape op.toNat = .modrm f) (hg : f g = .rm8 F)
    (hi : F rm = i) (h : rm.wf = true) (rest : List Byte) : decode (encRm8 op g rm ++ rest) = .ok (i, rest) := by
  rw [encRm8, List.cons_append, decode_cons, hs, finish_encRm8 _ _ _ _ _ h, hg, RmShape.finish, Rm.map_nums8, hi]

theorem decode_rm16 {F : Rm Reg16 → Instr} {rm : Rm Reg16} (hs : opShape op.toNat = .modrm f) (hg : f g = .rm16 F)
    (hi : F rm = i) (h : rm.wf = true) (rest : List Byte) : decode (encRm16 op g rm ++ rest) = .ok (i, rest) := by
  rw [encRm16, List.cons_append, decode_cons, hs, finish_encRm16 _ _ _ _ _ h, hg, RmShape.finish, Rm.map_nums16, hi]

theorem decode_mem {F : MemEA → Instr} {m : MemEA} (hs : opShape op.toNat = .modrm f) (hg : f g = .mem F)
    (hi : F m = i) (h : m.wf = true) (rest : List Byte) : decode (encMem op g m ++ rest) = .ok (i, rest) := by
  rw [encMem, List.cons_append, decode_cons, hs, finish_encMem _ _ _ _ _ h, hg, RmShape.finish, hi]

theorem decode_rm8Imm8 {F : Rm Reg8 → Byte → Instr} {rm : Rm Reg8} (hs : opShape op.toNat = .modrm f)
    (hg : f g = .rm8Imm8 F) (h : rm.wf = true) (b : Byte) (rest : List Byte) :
    decode (encRm8 op g rm ++ [b] ++ rest) = .ok (F rm b, rest) := by
  rw [encRm8, List.append_assoc, List.cons_append, decode_cons, hs, finish_encRm8 _ _ _ _ _ h, hg, List.cons_append,
    List.nil_append, RmShape.finish, Rm.map_nums8]

theorem decode_rm16Imm8 {F : Rm Reg16 → Byte → Instr} {rm : Rm Reg16} {b : Byte} (hs : opShape op.toNat = .modrm f)
    (hg : f g = .rm16Imm8 F) (hi : F rm b = i) (h : rm.wf = true) (rest : List Byte) :
    decode (encRm16 op g rm ++ [b] ++ rest) = .ok (i, rest) := by
  rw [encRm16, List.append_assoc, List.cons_append, decode_cons, hs, finish_encRm16 _ _ _ _ _ h, hg, List.cons_append,
    List.nil_append, RmShape.finish, Rm.map_nums16, hi]

theorem decode_rm16Imm16 {F : Rm Reg16 → Word → Instr} {rm : Rm Reg16} {v : Word} (hs : opShape op.toNat = .modrm f)
    (hg : f g = .rm16Imm16 F) (hi : F rm v = i) (h : rm.wf = true) (rest : List Byte) :
    decode (encRm16 op g rm ++ wordBytes v ++ rest) = .ok (i, rest) := by
  rw [encRm16, List.append_assoc, List.cons_append, decode_cons, hs, finish_encRm16 _ _ _ _ _ h, hg, wordBytes,
    List.cons_append, List.cons_append, List.nil_append, RmShape.finish, Rm.map_nums16, word16_hi8_lo8, hi]

end

/-- The eight ESC opcodes carry their number in the low bits of the opcode (R210). -/
theorem opShape_esc (n : BitVec 3) :
    opShape ((0xD8 : Byte) ||| n.setWidth 8).toNat = .modrm fun g => .rm16 fun rm => .esc n g rm := by
  obtain h | h | h | h | h | h | h | h : n = 0 ∨ n = 1 ∨ n = 2 ∨ n = 3 ∨ n = 4 ∨ n = 5 ∨ n = 6 ∨ n = 7 := by
    revert n; decide
  all_goals subst h; rfl

/-- Settles O1: an instruction's bytes are those of the shape its opcode has in the map, and each shape reads back. -/
theorem decodeOfEncode : Obligations.DecodeOfEncode := by
  intro i rest h
  cases i with
  | pushEs | pushCs | pushSs | pushDs | popEs | popSs | popDs | prefixEs | prefixCs | prefixSs | prefixDs | daa | das
  | aaa | aas | pusha | popa | insb | insw | outsb | outsw | nop | xchgAxCx | xchgAxDx | xchgAxBx | xchgAxSp
  | xchgAxBp | xchgAxSi | xchgAxDi | cbw | cwd | wait | pushf | popf | sahf | lahf | movsb | movsw | cmpsb | cmpsw
  | stosb | stosw | lodsb | lodsw | scasb | scasw | ret | leave | retf | int3 | into | iret | xlat | inAlDx | inAxDx
  | outDxAl | outDxAx | prefixLock | prefixRepne | prefixRep | hlt | cmc | clc | stc | cli | sti | cld | std =>
    exact decode_plain rfl rest
  | addAlImm8 imm | orAlImm8 imm | adcAlImm8 imm | sbbAlImm8 imm | andAlImm8 imm | subAlImm8 imm | xorAlImm8 imm
  | cmpAlImm8 imm | pushImm8s imm | testAlImm8 imm | intImm8 imm | aamImm8 imm | aadImm8 imm | inAlImm8 imm
  | inAxImm8 imm | outImm8Al imm | outImm8Ax imm | joRel8 imm | jnoRel8 imm | jbRel8 imm | jaeRel8 imm | jeRel8 imm
  | jneRel8 imm | jbeRel8 imm | jaRel8 imm | jsRel8 imm | jnsRel8 imm | jpRel8 imm | jnpRel8 imm | jlRel8 imm
  | jgeRel8 imm | jleRel8 imm | jgRel8 imm | loopneRel8 imm | loopeRel8 imm | loopRel8 imm | jcxzRel8 imm
  | jmpRel8 imm =>
    exact decode_imm8 rfl imm rest
  | addAxImm16 imm | orAxImm16 imm | adcAxImm16 imm | sbbAxImm16 imm | andAxImm16 imm | subAxImm16 imm
  | xorAxImm16 imm | cmpAxImm16 imm | pushImm16 imm | testAxImm16 imm | retImm16 imm | retfImm16 imm | movAlMoffs8 imm
  | movAxMoffs16 imm | movMoffs8Al imm | movMoffs16Ax imm | callRel16 imm | jmpRel16 imm =>
    exact decode_imm16 rfl imm rest
  | callFarDirect off sel | jmpFarDirect off sel =>
    exact decode_far rfl off sel rest
  | enterImm16Imm8 size level =>
    exact decode_imm16Imm8 rfl size level rest
  | addRm8R8 rm r | addR8Rm8 r rm | orRm8R8 rm r | orR8Rm8 r rm | adcRm8R8 rm r | adcR8Rm8 r rm | sbbRm8R8 rm r
  | sbbR8Rm8 r rm | andRm8R8 rm r | andR8Rm8 r rm | subRm8R8 rm r | subR8Rm8 r rm | xorRm8R8 rm r | xorR8Rm8 r rm
  | cmpRm8R8 rm r | cmpR8Rm8 r rm | testRm8R8 rm r | xchgRm8R8 rm r | movRm8R8 rm r | movR8Rm8 r rm =>
    exact decode_rm8 rfl rfl (by simp only [Reg8.ofNum_num]) h rest
  | rolRm8By1 rm | rorRm8By1 rm | rclRm8By1 rm | rcrRm8By1 rm | shlRm8By1 rm | shrRm8By1 rm | sarRm8By1 rm
  | rolRm8Cl rm | rorRm8Cl rm | rclRm8Cl rm | rcrRm8Cl rm | shlRm8Cl rm | shrRm8Cl rm | sarRm8Cl rm | notRm8 rm
  | negRm8 rm | mulRm8 rm | imulRm8 rm | divRm8 rm | idivRm8 rm | incRm8 rm | decRm8 rm =>
    exact decode_rm8 rfl rfl rfl h rest
  | addRm16R16 rm r | addR16Rm16 r rm | orRm16R16 rm r | orR16Rm16 r rm | adcRm16R16 rm r | adcR16Rm16 r rm
  | sbbRm16R16 rm r | sbbR16Rm16 r rm | andRm16R16 rm r | andR16Rm16 r rm | subRm16R16 rm r | subR16Rm16 r rm
  | xorRm16R16 rm r | xorR16Rm16 r rm | cmpRm16R16 rm r | cmpR16Rm16 r rm | testRm16R16 rm r | xchgRm16R16 rm r
  | movRm16R16 rm r | movR16Rm16 r rm =>
    exact decode_rm16 rfl rfl (by simp only [Reg16.ofNum_num]) h rest
  | movRm16Es rm | movRm16Cs rm | movRm16Ss rm | movRm16Ds rm | movEsRm16 rm | movCsRm16 rm | movSsRm16 rm
  | movDsRm16 rm | popRm16 rm | rolRm16By1 rm | rorRm16By1 rm | rclRm16By1 rm | rcrRm16By1 rm | shlRm16By1 rm
  | shrRm16By1 rm | sarRm16By1 rm | rolRm16Cl rm | rorRm16Cl rm | rclRm16Cl rm | rcrRm16Cl rm | shlRm16Cl rm
  | shrRm16Cl rm | sarRm16Cl rm | notRm16 rm | negRm16 rm | mulRm16 rm | imulRm16 rm | divRm16 rm | idivRm16 rm
  | incRm16 rm | decRm16 rm | callRm16 rm | jmpRm16 rm | pushRm16 rm =>
    exact decode_rm16 rfl rfl rfl h rest
  | boundR16M r m | leaR16M r m | lesR16M r m | ldsR16M r m =>
    exact decode_mem rfl rfl (by simp only [Reg16.ofNum_num]) h rest
  | callFarMem m | jmpFarMem m =>
    exact decode_mem rfl rfl rfl h rest
  | addRm8Imm8 rm imm | orRm8Imm8 rm imm | adcRm8Imm8 rm imm | sbbRm8Imm8 rm imm | andRm8Imm8 rm imm
  | subRm8Imm8 rm imm | xorRm8Imm8 rm imm | cmpRm8Imm8 rm imm | addRm8Imm8Op82 rm imm | orRm8Imm8Op82 rm imm
  | adcRm8Imm8Op82 rm imm | sbbRm8Imm8Op82 rm imm | andRm8Imm8Op82 rm imm | subRm8Imm8Op82 rm imm
  | xorRm8Imm8Op82 rm imm | cmpRm8Imm8Op82 rm imm | rolRm8Imm8 rm imm | rorRm8Imm8 rm imm | rclRm8Imm8 rm imm
  | rcrRm8Imm8 rm imm | shlRm8Imm8 rm imm | shrRm8Imm8 rm imm | sarRm8Imm8 rm imm | movRm8Imm8 rm imm
  | testRm8Imm8 rm imm =>
    exact decode_rm8Imm8 rfl rfl h imm rest
  | addRm16Imm8s rm imm | orRm16Imm8s rm imm | adcRm16Imm8s rm imm | sbbRm16Imm8s rm imm | andRm16Imm8s rm imm
  | subRm16Imm8s rm imm | xorRm16Imm8s rm imm | cmpRm16Imm8s rm imm | rolRm16Imm8 rm imm | rorRm16Imm8 rm imm
  | rclRm16Imm8 rm imm | rcrRm16Imm8 rm imm | shlRm16Imm8 rm imm | shrRm16Imm8 rm imm | sarRm16Imm8 rm imm =>
    exact decode_rm16Imm8 rfl rfl rfl h rest
  | imulR16Rm16Imm8s r rm imm =>
    exact decode_rm16Imm8 rfl rfl (by simp only [Reg16.ofNum_num]) h rest
  | addRm16Imm16 rm imm | orRm16Imm16 rm imm | adcRm16Imm16 rm imm | sbbRm16Imm16 rm imm | andRm16Imm16 rm imm
  | subRm16Imm16 rm imm | xorRm16Imm16 rm imm | cmpRm16Imm16 rm imm | movRm16Imm16 rm imm | testRm16Imm16 rm imm =>
    exact decode_rm16Imm16 rfl rfl rfl h rest
  | imulR16Rm16Imm16 r rm imm =>
    exact decode_rm16Imm16 rfl rfl (by simp only [Reg16.ofNum_num]) h rest
  | incR16 r | decR16 r | pushR16 r | popR16 r =>
    cases r <;> exact decode_plain rfl rest
  | movR8Imm8 r imm =>
    cases r <;> exact decode_imm8 rfl imm rest
  | movR16Imm16 r imm =>
    cases r <;> exact decode_imm16 rfl imm rest
  | esc n g rm =>
    exact decode_rm16 (opShape_esc n) rfl rfl h rest

end Sys2Proof.Machine
end

section
/-! What the decoder reads is written back (30_encoding R170 to R210): a shape of the opcode map inverts when each
instruction it builds is well-formed with its operand and encodes to the bytes the shape was read from. Every line of the
map inverts, and reading an operand loses no bit. -/

namespace Sys2Proof
open Machine

/-- The instructions a ModRM shape builds encode to opcode, ModRM operand and immediate. -/
def RmShape.Inverts (op : Byte) (g : BitVec 3) : RmShape → Prop
  | .hole => True
  | .rm8 f => ∀ rm, (f rm).wf = rm.wf ∧ encode (f rm) = encRm8 op g rm
  | .rm16 f => ∀ rm, (f rm).wf = rm.wf ∧ encode (f rm) = encRm16 op g rm
  | .mem f => ∀ m, (f m).wf = m.wf ∧ encode (f m) = encMem op g m
  | .rm8Imm8 f => ∀ rm b, (f rm b).wf = rm.wf ∧ encode (f rm b) = encRm8 op g rm ++ [b]
  | .rm16Imm16 f => ∀ rm v, (f rm v).wf = rm.wf ∧ encode (f rm v) = encRm16 op g rm ++ wordBytes v
  | .rm16Imm8 f => ∀ rm b, (f rm b).wf = rm.wf ∧ encode (f rm b) = encRm16 op g rm ++ [b]

/-- The instructions a shape builds encode to the opcode and the operand bytes. -/
def Shape.Inverts (op : Byte) : Shape → Prop
  | .invalid => True
  | .plain i => i.wf = true ∧ encode i = [op]
  | .imm8 f => ∀ b, (f b).wf = true ∧ encode (f b) = [op, b]
  | .imm16 f => ∀ v, (f v).wf = true ∧ encode (f v) = op :: wordBytes v
  | .imm16Imm8 f => ∀ v b, (f v b).wf = true ∧ encode (f v b) = op :: (wordBytes v ++ [b])
  | .far f => ∀ u v, (f u v).wf = true ∧ encode (f u v) = op :: (wordBytes u ++ wordBytes v)
  | .modrm f => ∀ g, (f g).Inverts op g

/-! ### Reading an operand loses no bit -/

@[simp] theorem wordBytes_word16 (h l : Byte) : wordBytes (word16 h l) = [l, h] := by
  simp only [wordBytes, lo8_word16, hi8_word16]

theorem Rm.nums8_map (rm : Rm (BitVec 3)) : (rm.map Reg8.ofNum).nums8 = rm := by
  cases rm <;> simp only [Rm.map, Rm.nums8, Reg8.num_ofNum]

theorem Rm.nums16_map (rm : Rm (BitVec 3)) : (rm.map Reg16.ofNum).nums16 = rm := by
  cases rm <;> simp only [Rm.map, Rm.nums16, Reg16.num_ofNum]

theorem Rm.wf_map {ρ σ : Type} (f : ρ → σ) (rm : Rm ρ) : (rm.map f).wf = rm.wf := by
  cases rm <;> rfl

/-- A ModRM byte is the one its fields make. -/
theorem modrmByte_eq {m : Byte} {md : BitVec 2} {n : BitVec 3} (hm : (modOf m).toNat = md.toNat) (hn : n = rmOf m) :
    modrmByte md (regOf m) n = m := by
  rw [hn, ← BitVec.eq_of_toNat_eq hm, modrmByte_fields]

theorem toNat_eq_three {b : BitVec 2} (h0 : b.toNat ≠ 0) (h1 : b.toNat ≠ 1) (h2 : b.toNat ≠ 2) : b.toNat = 3 := by
  revert b; decide

theorem EABase.ofNum_ne_bp {n : BitVec 3} (h : n ≠ 6) : (EABase.ofNum n != .bp) = true := by
  revert n; decide

/-- The operand read is well-formed, and its bytes and the rest are the bytes it was read from. -/
theorem modrmBytes_of_readModRM {bytes rest : List Byte} {g : BitVec 3} {rm : Rm (BitVec 3)}
    (h : readModRM bytes = some (g, rm, rest)) : rm.wf = true ∧ modrmBytes g rm ++ rest = bytes := by
  unfold readModRM at h
  split at h
  · cases h
  · rename_i m t
    split at h
    · rename_i hm
      split at h
      · rename_i h6
        split at h <;> cases h
        exact ⟨rfl, by
        simpa [modrmBytes, Rm.modField, Rm.rmField, Rm.dispBytes] using modrmByte_eq (md := 0) hm h6.symm⟩
      · rename_i h6
        cases h
        exact ⟨EABase.ofNum_ne_bp h6, by
        simpa [modrmBytes, Rm.modField, Rm.rmField, Rm.dispBytes] using modrmByte_eq (md := 0) hm (EABase.num_ofNum _)⟩
    · rename_i hm
      split at h <;> cases h
      exact ⟨rfl, by
        simpa [modrmBytes, Rm.modField, Rm.rmField, Rm.dispBytes] using modrmByte_eq (md := 1) hm (EABase.num_ofNum _)⟩
    · rename_i hm
      split at h <;> cases h
      exact ⟨rfl, by
        simpa [modrmBytes, Rm.modField, Rm.rmField, Rm.dispBytes] using modrmByte_eq (md := 2) hm (EABase.num_ofNum _)⟩
    · rename_i h0 h1 h2
      cases h
      have hm := toNat_eq_three h0 h1 h2
      exact ⟨rfl, by
        simpa [modrmBytes, Rm.modField, Rm.rmField, Rm.dispBytes] using modrmByte_eq (md := 3) hm rfl⟩

/-! ### A shape that inverts -/

theorem RmShape.Inverts.finish {sh : RmShape} {op : Byte} {g : BitVec 3} {rm : Rm (BitVec 3)} {t rest : List Byte}
    {i : Instr} (hs : sh.Inverts op g) (hw : rm.wf = true) (h : sh.finish op g rm t = .ok (i, rest)) :
    i.wf = true ∧ encode i ++ rest = op :: (modrmBytes g rm ++ t) := by
  cases sh with
  | hole => cases h
  | rm8 f =>
    cases h
    obtain ⟨h1, h2⟩ := hs (rm.map Reg8.ofNum)
    exact ⟨by rw [h1, Rm.wf_map, hw], by rw [h2, encRm8, Rm.nums8_map]; rfl⟩
  | rm16 f =>
    cases h
    obtain ⟨h1, h2⟩ := hs (rm.map Reg16.ofNum)
    exact ⟨by rw [h1, Rm.wf_map, hw], by rw [h2, encRm16, Rm.nums16_map]; rfl⟩
  | mem f =>
    cases rm with
    | reg n => cases h
    | mem m =>
      cases h
      obtain ⟨h1, h2⟩ := hs m
      exact ⟨by rw [h1]; exact hw, by rw [h2]; rfl⟩
  | rm8Imm8 f =>
    simp only [RmShape.finish] at h
    split at h <;> cases h
    rename_i b
    obtain ⟨h1, h2⟩ := hs (rm.map Reg8.ofNum) b
    exact ⟨by rw [h1, Rm.wf_map, hw], by rw [h2, encRm8, Rm.nums8_map]; simp⟩
  | rm16Imm16 f =>
    simp only [RmShape.finish] at h
    split at h <;> cases h
    rename_i l b
    obtain ⟨h1, h2⟩ := hs (rm.map Reg16.ofNum) (word16 b l)
    exact ⟨by rw [h1, Rm.wf_map, hw], by rw [h2, encRm16, Rm.nums16_map]; simp⟩
  | rm16Imm8 f =>
    simp only [RmShape.finish] at h
    split at h <;> cases h
    rename_i b
    obtain ⟨h1, h2⟩ := hs (rm.map Reg16.ofNum) b
    exact ⟨by rw [h1, Rm.wf_map, hw], by rw [h2, encRm16, Rm.nums16_map]; simp⟩

theorem Shape.Inverts.finish {sh : Shape} {op : Byte} {t rest : List Byte} {i : Instr} (hs : sh.Inverts op)
    (h : sh.finish op t = .ok (i, rest)) : i.wf = true ∧ encode i ++ rest = op :: t := by
  cases sh with
  | invalid => cases h
  | plain j =>
    cases h
    exact ⟨hs.1, by rw [hs.2]; rfl⟩
  | imm8 f =>
    simp only [Shape.finish] at h
    split at h <;> cases h
    rename_i b
    exact ⟨(hs b).1, by rw [(hs b).2]; rfl⟩
  | imm16 f =>
    simp only [Shape.finish] at h
    split at h <;> cases h
    exact ⟨(hs _).1, by rw [(hs _).2]; simp⟩
  | imm16Imm8 f =>
    simp only [Shape.finish] at h
    split at h <;> cases h
    exact ⟨(hs _ _).1, by rw [(hs _ _).2]; simp⟩
  | far f =>
    simp only [Shape.finish] at h
    split at h <;> cases h
    exact ⟨(hs _ _).1, by rw [(hs _ _).2]; simp⟩
  | modrm f =>
    simp only [Shape.finish] at h
    split at h
    · rename_i g rm u hr
      obtain ⟨hw, hb⟩ := modrmBytes_of_readModRM hr
      rw [← hb]
      exact (hs g).finish hw h
    · cases h

/-! ### Every line of the map inverts -/

theorem forall_regField {P : BitVec 3 → Prop} (h0 : P 0) (h1 : P 1) (h2 : P 2) (h3 : P 3) (h4 : P 4) (h5 : P 5)
    (h6 : P 6) (h7 : P 7) (g : BitVec 3) : P g := by
  obtain h | h | h | h | h | h | h | h : g = 0 ∨ g = 1 ∨ g = 2 ∨ g = 3 ∨ g = 4 ∨ g = 5 ∨ g = 6 ∨ g = 7 := by
    revert g; decide
  all_goals subst h; assumption

/-- Opcodes of a byte r/m and a byte register. -/
def byteRegRows : List Nat :=
  [0x00, 0x02, 0x08, 0x0A, 0x10, 0x12, 0x18, 0x1A, 0x20, 0x22, 0x28, 0x2A, 0x30, 0x32, 0x38, 0x3A, 0x84, 0x86,
   0x88, 0x8A]

/-- Opcodes of a word r/m and a word register. -/
def wordRegRows : List Nat :=
  [0x01, 0x03, 0x09, 0x0B, 0x11, 0x13, 0x19, 0x1B, 0x21, 0x23, 0x29, 0x2B, 0x31, 0x33, 0x39, 0x3B, 0x85, 0x87,
   0x89, 0x8B]

/-- Opcodes of one operand: an immediate, a displacement or an address. -/
def oneOperandRows : List Nat :=
  [0x04, 0x05, 0x0C, 0x0D, 0x14, 0x15, 0x1C, 0x1D, 0x24, 0x25, 0x2C, 0x2D, 0x34, 0x35, 0x3C, 0x3D, 0x68, 0x6A,
   0x70, 0x71, 0x72, 0x73, 0x74, 0x75, 0x76, 0x77, 0x78, 0x79, 0x7A, 0x7B, 0x7C, 0x7D, 0x7E, 0x7F, 0xA0, 0xA1,
   0xA2, 0xA3, 0xA8, 0xA9, 0xB0, 0xB1, 0xB2, 0xB3, 0xB4, 0xB5, 0xB6, 0xB7, 0xB8, 0xB9, 0xBA, 0xBB, 0xBC, 0xBD,
   0xBE, 0xBF, 0xC2, 0xCA, 0xCD, 0xD4, 0xD5, 0xE0, 0xE1, 0xE2, 0xE3, 0xE4, 0xE5, 0xE6, 0xE7, 0xE8, 0xE9, 0xEB]

/-- Opcodes of one byte. -/
def plainRows : List Nat :=
  [0x06, 0x07, 0x0E, 0x16, 0x17, 0x1E, 0x1F, 0x26, 0x27, 0x2E, 0x2F, 0x36, 0x37, 0x3E, 0x3F, 0x40, 0x41, 0x42,
   0x43, 0x44, 0x45, 0x46, 0x47, 0x48, 0x49, 0x4A, 0x4B, 0x4C, 0x4D, 0x4E, 0x4F, 0x50, 0x51, 0x52, 0x53, 0x54,
   0x55, 0x56, 0x57, 0x58, 0x59, 0x5A, 0x5B, 0x5C, 0x5D, 0x5E, 0x5F, 0x60, 0x61, 0x6C, 0x6D, 0x6E, 0x6F, 0x90,
   0x91, 0x92, 0x93, 0x94, 0x95, 0x96, 0x97, 0x98, 0x99, 0x9B, 0x9C, 0x9D, 0x9E, 0x9F, 0xA4, 0xA5, 0xA6, 0xA7,
   0xAA, 0xAB, 0xAC, 0xAD, 0xAE, 0xAF, 0xC3, 0xC9, 0xCB, 0xCC, 0xCE, 0xCF, 0xD7, 0xEC, 0xED, 0xEE, 0xEF, 0xF0,
   0xF2, 0xF3, 0xF4, 0xF5, 0xF8, 0xF9, 0xFA, 0xFB, 0xFC, 0xFD]

/-- Opcodes without a row (R220). -/
def invalidRows : List Nat :=
  [0x0F, 0x63, 0x64, 0x65, 0x66, 0x67, 0xD6, 0xF1]

/-- Opcodes of a register and a memory operand. -/
def memRows : List Nat :=
  [0x62, 0x8D, 0xC4, 0xC5]

/-- Opcodes of two immediates, and ESC with its reg field and r/m. -/
def twoOperandRows : List Nat :=
  [0x9A, 0xC8, 0xD8, 0xD9, 0xDA, 0xDB, 0xDC, 0xDD, 0xDE, 0xDF, 0xEA]

/-- Opcodes whose reg field names the instruction (R199), by the reg fields that have one. -/
def groupRows : List Nat :=
  [0x80, 0x81, 0x82, 0x83] ++ [0x8C, 0x8E] ++ [0x8F] ++ [0xC0, 0xC1] ++ [0xC6, 0xC7] ++ [0xD0, 0xD1, 0xD2, 0xD3] ++
    [0xF6, 0xF7] ++ [0xFE] ++ [0xFF]

/-- Every opcode is in one of these lists. -/
theorem opcode_cases {n : Nat} (h : n < 256) :
    n ∈ byteRegRows ∨ n ∈ wordRegRows ∨ n ∈ oneOperandRows ∨ n ∈ plainRows ∨ n ∈ invalidRows ∨ n ∈ memRows ∨
      n = 0x69 ∨ n = 0x6B ∨ n ∈ twoOperandRows ∨ n ∈ groupRows := by
  interval_cases n <;> decide

theorem groupRows_invert {n : Nat} (h : n ∈ groupRows) : (opShape n).Inverts (BitVec.ofNat 8 n) := by
  simp only [groupRows, List.mem_append, or_assoc] at h
  obtain h | h | h | h | h | h | h | h | h := h
  · fin_cases h <;>
      exact forall_regField (fun _ _ => ⟨rfl, rfl⟩) (fun _ _ => ⟨rfl, rfl⟩) (fun _ _ => ⟨rfl, rfl⟩)
        (fun _ _ => ⟨rfl, rfl⟩) (fun _ _ => ⟨rfl, rfl⟩) (fun _ _ => ⟨rfl, rfl⟩) (fun _ _ => ⟨rfl, rfl⟩)
        (fun _ _ => ⟨rfl, rfl⟩)
  · fin_cases h <;>
      exact forall_regField (fun _ => ⟨rfl, rfl⟩) (fun _ => ⟨rfl, rfl⟩) (fun _ => ⟨rfl, rfl⟩) (fun _ => ⟨rfl, rfl⟩)
        trivial trivial trivial trivial
  · fin_cases h
    exact forall_regField (fun _ => ⟨rfl, rfl⟩) trivial trivial trivial trivial trivial trivial trivial
  · fin_cases h <;>
      exact forall_regField (fun _ _ => ⟨rfl, rfl⟩) (fun _ _ => ⟨rfl, rfl⟩) (fun _ _ => ⟨rfl, rfl⟩)
        (fun _ _ => ⟨rfl, rfl⟩) (fun _ _ => ⟨rfl, rfl⟩) (fun _ _ => ⟨rfl, rfl⟩) trivial (fun _ _ => ⟨rfl, rfl⟩)
  · fin_cases h <;>
      exact forall_regField (fun _ _ => ⟨rfl, rfl⟩) trivial trivial trivial trivial trivial trivial trivial
  · fin_cases h <;>
      exact forall_regField (fun _ => ⟨rfl, rfl⟩) (fun _ => ⟨rfl, rfl⟩) (fun _ => ⟨rfl, rfl⟩) (fun _ => ⟨rfl, rfl⟩)
        (fun _ => ⟨rfl, rfl⟩) (fun _ => ⟨rfl, rfl⟩) trivial (fun _ => ⟨rfl, rfl⟩)
  · fin_cases h <;>
      exact forall_regField (fun _ _ => ⟨rfl, rfl⟩) trivial (fun _ => ⟨rfl, rfl⟩) (fun _ => ⟨rfl, rfl⟩)
        (fun _ => ⟨rfl, rfl⟩) (fun _ => ⟨rfl, rfl⟩) (fun _ => ⟨rfl, rfl⟩) (fun _ => ⟨rfl, rfl⟩)
  · fin_cases h
    exact forall_regField (fun _ => ⟨rfl, rfl⟩) (fun _ => ⟨rfl, rfl⟩) trivial trivial trivial trivial trivial trivial
  · fin_cases h
    exact forall_regField (fun _ => ⟨rfl, rfl⟩) (fun _ => ⟨rfl, rfl⟩) (fun _ => ⟨rfl, rfl⟩) (fun _ => ⟨rfl, rfl⟩)
      (fun _ => ⟨rfl, rfl⟩) (fun _ => ⟨rfl, rfl⟩) (fun _ => ⟨rfl, rfl⟩) trivial

theorem opShape_inverts (op : Byte) : (opShape op.toNat).Inverts op := by
  obtain ⟨n, hn, rfl⟩ : ∃ n < 256, op = BitVec.ofNat 8 n := ⟨op.toNat, op.isLt, BitVec.eq_of_toNat_eq (by simp)⟩
  rw [BitVec.toNat_ofNat, Nat.mod_eq_of_lt hn]
  obtain h | h | h | h | h | h | rfl | rfl | h | h := opcode_cases hn
  · fin_cases h <;> exact fun g rm => ⟨rfl, congrArg (encRm8 _ · rm) (Reg8.num_ofNum g)⟩
  · fin_cases h <;> exact fun g rm => ⟨rfl, congrArg (encRm16 _ · rm) (Reg16.num_ofNum g)⟩
  · fin_cases h <;> exact fun _ => ⟨rfl, rfl⟩
  · fin_cases h <;> exact ⟨rfl, rfl⟩
  · fin_cases h <;> exact trivial
  · fin_cases h <;> exact fun g m => ⟨rfl, congrArg (encMem _ · m) (Reg16.num_ofNum g)⟩
  · exact fun g rm imm => ⟨rfl, congrArg (encRm16 _ · rm ++ wordBytes imm) (Reg16.num_ofNum g)⟩
  · exact fun g rm imm => ⟨rfl, congrArg (encRm16 _ · rm ++ [imm]) (Reg16.num_ofNum g)⟩
  · fin_cases h <;> exact fun _ _ => ⟨rfl, rfl⟩
  · exact groupRows_invert h

/-- Settles O2: the opcode's line of the map inverts, so what it reads encodes to the bytes it was read from. -/
theorem encodeOfDecode : Obligations.EncodeOfDecode := by
  intro bytes i rest h
  cases bytes with
  | nil => cases h
  | cons op t => exact (opShape_inverts op).finish h

end Sys2Proof
end

section
/-! The invalid encodings (30_encoding R199, R220): with enough bytes after the ModRM byte the decoder fails only at an
opcode or ModRM byte without a row, and these are the encodings of the list. -/

namespace Sys2Proof
open Machine Claims

/-- With four bytes after it a ModRM byte is read, two of them are left, and the operand is a register exactly under
mod 3. -/
theorem readModRM_long (m a b c d : Byte) (rest : List Byte) :
    ∃ rm x y t, readModRM (m :: a :: b :: c :: d :: rest) = some (regOf m, rm, x :: y :: t) ∧
      ((∃ e, rm = .mem e) ↔ (modOf m != 3) = true) := by
  have h3 : ∀ k : Nat, (modOf m).toNat = k → k ≠ 3 → (modOf m != 3) = true := by
    rintro _ rfl h
    exact bne_iff_ne.mpr fun e => h (congrArg BitVec.toNat e)
  simp only [readModRM]
  split
  · rename_i hm
    split
    · exact ⟨_, _, _, _, rfl, fun _ => h3 _ hm (by decide), fun _ => ⟨_, rfl⟩⟩
    · exact ⟨_, _, _, _, rfl, fun _ => h3 _ hm (by decide), fun _ => ⟨_, rfl⟩⟩
  · rename_i hm
    exact ⟨_, _, _, _, rfl, fun _ => h3 _ hm (by decide), fun _ => ⟨_, rfl⟩⟩
  · rename_i hm
    exact ⟨_, _, _, _, rfl, fun _ => h3 _ hm (by decide), fun _ => ⟨_, rfl⟩⟩
  · rename_i h0 h1 h2
    have hm : modOf m = 3 := BitVec.eq_of_toNat_eq (toNat_eq_three h0 h1 h2)
    exact ⟨_, _, _, _, rfl, fun ⟨_, e⟩ => (nomatch e), fun e => absurd hm (bne_iff_ne.mp e)⟩

theorem RmShape.finish_isOk_iff {sh : RmShape} {op m x y : Byte} {g : BitVec 3} {rm : Rm (BitVec 3)} {t : List Byte}
    (hm : (∃ e, rm = .mem e) ↔ (modOf m != 3) = true) :
    (∃ i u, sh.finish op g rm (x :: y :: t) = .ok (i, u)) ↔ sh.hasRow m = true := by
  cases sh with
  | hole => exact ⟨fun ⟨_, _, e⟩ => (nomatch e), fun e => (nomatch e)⟩
  | mem f =>
    rw [RmShape.hasRow, ← hm]
    cases rm with
    | reg n => exact ⟨fun ⟨_, _, e⟩ => (nomatch e), fun ⟨_, e⟩ => (nomatch e)⟩
    | mem e => exact ⟨fun _ => ⟨e, rfl⟩, fun _ => ⟨_, _, rfl⟩⟩
  | rm8 f | rm16 f | rm8Imm8 f | rm16Imm16 f | rm16Imm8 f => exact ⟨fun _ => rfl, fun _ => ⟨_, _, rfl⟩⟩

/-- With enough bytes after it an opcode with its ModRM byte is decoded exactly when it has a row. -/
theorem decode_isOk_iff_hasRow (op m a b c d : Byte) (rest : List Byte) :
    (∃ i u, decode (op :: m :: a :: b :: c :: d :: rest) = .ok (i, u)) ↔ (opShape op.toNat).hasRow m = true := by
  rw [decode_cons]
  cases opShape op.toNat with
  | invalid => exact ⟨fun ⟨_, _, e⟩ => (nomatch e), fun e => (nomatch e)⟩
  | plain i | imm8 f | imm16 f | imm16Imm8 f | far f => exact ⟨fun _ => rfl, fun _ => ⟨_, _, rfl⟩⟩
  | modrm f =>
    obtain ⟨rm, x, y, t, hr, hm⟩ := readModRM_long m a b c d rest
    simp only [Shape.finish, hr]
    exact RmShape.finish_isOk_iff hm

/-- The encodings without a row are those of the list of R220, opcode by opcode. -/
theorem hasRow_eq_not_invalidEncoding (op m : Byte) : (opShape op.toNat).hasRow m = !invalidEncoding op m := by
  obtain ⟨n, hn, rfl⟩ : ∃ n < 256, op = BitVec.ofNat 8 n := ⟨op.toNat, op.isLt, BitVec.eq_of_toNat_eq (by simp)⟩
  rw [BitVec.toNat_ofNat, Nat.mod_eq_of_lt hn]
  obtain h | h | h | h | h | h | rfl | rfl | h | h := opcode_cases hn
  · fin_cases h <;> rfl
  · fin_cases h <;> rfl
  · fin_cases h <;> rfl
  · fin_cases h <;> rfl
  · fin_cases h <;> rfl
  · fin_cases h <;> (revert m; decide)
  · rfl
  · rfl
  · fin_cases h <;> rfl
  · fin_cases h <;> (revert m; decide)

/-- Settles O3: to decode is to have a row, and the list of R220 is what has none. -/
theorem invalidEncodings : Obligations.InvalidEncodings := by
  intro op m a b c d rest
  rw [decode_isOk_iff_hasRow, hasRow_eq_not_invalidEncoding, Bool.not_eq_true']

end Sys2Proof
end

section
/-! What every instruction keeps, said once: a property of states kept by the elementary updates, by a write of the status
flags, by the handling of a fault and by a software interrupt is kept by every instruction but the prefixes, HLT, the
writes of IF and DF, POPF and IRET. The invariant (10_state section 7.1) and the noninterference statement are two such
properties. -/

namespace Sys2Proof.Machine
open Claims (sameControl)

/-! ### Updates of the status flags -/

/-- A write of the status flags and their record: TF, IF and DF are kept, and so is the record's agreement. -/
structure StatusUpdate (a b : FlagEngine) : Prop where
  control : sameControl a b
  agrees : a.recordAgrees → b.recordAgrees

theorem StatusUpdate.of_agrees {a b : FlagEngine} (hc : sameControl a b) (h : b.recordAgrees) : StatusUpdate a b :=
  ⟨hc, fun _ => h⟩

theorem rotateFlags_control {w : Nat} (p : Params) (k : RotateKind) (a : BitVec w) (n e : Nat) (r : BitVec w)
    (cf : Bool)
    (fe : FlagEngine) : sameControl fe (rotateFlags p k a n e r cf fe) := by
  unfold rotateFlags
  dsimp only
  split
  · exact ⟨rfl, rfl, rfl⟩
  · split <;> exact ⟨rfl, rfl, rfl⟩

theorem shiftFlags_control {w : Nat} (p : Params) (k : ShiftKind) (n : Nat) (a r : BitVec w) (raw : Nat) (cf : Bool)
    (fe : FlagEngine) : sameControl fe (shiftFlags p k n a r raw cf fe) := by
  unfold shiftFlags
  dsimp only
  split
  · exact ⟨rfl, rfl, rfl⟩
  · split <;> exact ⟨rfl, rfl, rfl⟩

theorem rol_control {w : Nat} (p : Params) (a : BitVec w) (n : Nat) (fe : FlagEngine) :
    sameControl fe (rol p a n fe).2 := by
  unfold rol
  dsimp only
  split
  · split
    · exact rotateFlags_control _ _ _ _ _ _ _ _
    · exact ⟨rfl, rfl, rfl⟩
  · exact rotateFlags_control _ _ _ _ _ _ _ _

theorem ror_control {w : Nat} (p : Params) (a : BitVec w) (n : Nat) (fe : FlagEngine) :
    sameControl fe (ror p a n fe).2 := by
  unfold ror
  dsimp only
  split
  · split
    · exact rotateFlags_control _ _ _ _ _ _ _ _
    · exact ⟨rfl, rfl, rfl⟩
  · exact rotateFlags_control _ _ _ _ _ _ _ _

theorem rcl_control {w : Nat} (p : Params) (a : BitVec w) (n : Nat) (fe : FlagEngine) :
    sameControl fe (rcl p a n fe).2 := by
  unfold rcl
  dsimp only
  split
  · exact ⟨rfl, rfl, rfl⟩
  · exact rotateFlags_control _ _ _ _ _ _ _ _

theorem rcr_control {w : Nat} (p : Params) (a : BitVec w) (n : Nat) (fe : FlagEngine) :
    sameControl fe (rcr p a n fe).2 := by
  unfold rcr
  dsimp only
  split
  · exact ⟨rfl, rfl, rfl⟩
  · exact rotateFlags_control _ _ _ _ _ _ _ _

theorem shl_control {w : Nat} (p : Params) (a : BitVec w) (n : Nat) (fe : FlagEngine) :
    sameControl fe (shl p a n fe).2 := by
  unfold shl
  split
  · exact ⟨rfl, rfl, rfl⟩
  · exact shiftFlags_control _ _ _ _ _ _ _ _

theorem shr_control {w : Nat} (p : Params) (a : BitVec w) (n : Nat) (fe : FlagEngine) :
    sameControl fe (shr p a n fe).2 := by
  unfold shr
  split
  · exact ⟨rfl, rfl, rfl⟩
  · exact shiftFlags_control _ _ _ _ _ _ _ _

theorem sar_control {w : Nat} (p : Params) (a : BitVec w) (n : Nat) (fe : FlagEngine) :
    sameControl fe (sar p a n fe).2 := by
  unfold sar
  split
  · exact ⟨rfl, rfl, rfl⟩
  · exact shiftFlags_control _ _ _ _ _ _ _ _

theorem aluApply_control {w : Nat} (op : AluOp) (a b : BitVec w) (fe : FlagEngine) :
    sameControl fe (op.apply a b fe).2 := by
  cases op <;> exact ⟨rfl, rfl, rfl⟩

theorem shiftApply_control {w : Nat} (op : ShiftOp) (p : Params) (a : BitVec w) (n : Nat) (fe : FlagEngine) :
    sameControl fe (op.apply p a n fe).2 := by
  cases op with
  | rol => exact rol_control p a n fe
  | ror => exact ror_control p a n fe
  | rcl => exact rcl_control p a n fe
  | rcr => exact rcr_control p a n fe
  | shl => exact shl_control p a n fe
  | shr => exact shr_control p a n fe
  | sar => exact sar_control p a n fe

theorem aaa_control (al ah : Byte) (fe : FlagEngine) : sameControl fe (aaa al ah fe).2.2 := by
  unfold aaa
  split <;> exact ⟨rfl, rfl, rfl⟩

theorem aas_control (al ah : Byte) (fe : FlagEngine) : sameControl fe (aas al ah fe).2.2 := by
  unfold aas
  split <;> exact ⟨rfl, rfl, rfl⟩

theorem aluApply_update {w : Nat} (hw : w = 8 ∨ w = 16) (op : AluOp) (a b : BitVec w) (fe : FlagEngine) :
    StatusUpdate fe (op.apply a b fe).2 :=
  .of_agrees (aluApply_control op a b fe) (aluApply_agrees hw op a b fe)

theorem shiftApply_update {w : Nat} (op : ShiftOp) (p : Params) (a : BitVec w) (n : Nat) (fe : FlagEngine) :
    StatusUpdate fe (op.apply p a n fe).2 :=
  ⟨shiftApply_control op p a n fe, shiftApply_agrees op p a n⟩

theorem testFlags_update {w : Nat} (hw : w = 8 ∨ w = 16) (a b : BitVec w) (fe : FlagEngine) :
    StatusUpdate fe (testFlags a b fe) :=
  .of_agrees ⟨rfl, rfl, rfl⟩ (logicFlags_agrees hw _ _ _ _)

theorem cmpFlags_update {w : Nat} (hw : w = 8 ∨ w = 16) (a b : BitVec w) (fe : FlagEngine) :
    StatusUpdate fe (cmpFlags a b fe) :=
  .of_agrees ⟨rfl, rfl, rfl⟩ (subWith_agrees hw _ _ _ _)

theorem inc_update {w : Nat} (hw : w = 8 ∨ w = 16) (a : BitVec w) (fe : FlagEngine) : StatusUpdate fe (inc a fe).2 :=
  .of_agrees ⟨rfl, rfl, rfl⟩ (inc_agrees hw a fe)

theorem dec_update {w : Nat} (hw : w = 8 ∨ w = 16) (a : BitVec w) (fe : FlagEngine) : StatusUpdate fe (dec a fe).2 :=
  .of_agrees ⟨rfl, rfl, rfl⟩ (dec_agrees hw a fe)

theorem neg_update {w : Nat} (hw : w = 8 ∨ w = 16) (a : BitVec w) (fe : FlagEngine) : StatusUpdate fe (neg a fe).2 :=
  .of_agrees ⟨rfl, rfl, rfl⟩ (neg_agrees hw a fe)

theorem complement_update {w : Nat} (a : BitVec w) (fe : FlagEngine) : StatusUpdate fe (complement a fe).2 :=
  ⟨⟨rfl, rfl, rfl⟩, id⟩

theorem mul_update {w : Nat} (hw : w = 8 ∨ w = 16) (a b : BitVec w) (fe : FlagEngine) :
    StatusUpdate fe (mul a b fe).2.2 :=
  .of_agrees ⟨rfl, rfl, rfl⟩ (mul_agrees hw a b fe)

theorem imul_update {w : Nat} (hw : w = 8 ∨ w = 16) (a b : BitVec w) (fe : FlagEngine) :
    StatusUpdate fe (imul a b fe).2.2 :=
  .of_agrees ⟨rfl, rfl, rfl⟩ (imul_agrees hw a b fe)

theorem divFlags_update {w : Nat} (n : Nat) (d q : BitVec w) (fe : FlagEngine) : StatusUpdate fe (divFlags n d q fe) :=
  .of_agrees ⟨rfl, rfl, rfl⟩ (divFlags_agrees n d q fe)

theorem aaa_update (al ah : Byte) (fe : FlagEngine) : StatusUpdate fe (aaa al ah fe).2.2 :=
  .of_agrees (aaa_control al ah fe) (aaa_agrees al ah fe)

theorem aas_update (al ah : Byte) (fe : FlagEngine) : StatusUpdate fe (aas al ah fe).2.2 :=
  .of_agrees (aas_control al ah fe) (aas_agrees al ah fe)

theorem daa_update (al : Byte) (fe : FlagEngine) : StatusUpdate fe (daa al fe).2 :=
  .of_agrees ⟨rfl, rfl, rfl⟩ (daa_agrees al fe)

theorem das_update (al : Byte) (fe : FlagEngine) : StatusUpdate fe (das al fe).2 :=
  .of_agrees ⟨rfl, rfl, rfl⟩ (das_agrees al fe)

theorem aad_update (al ah b : Byte) (fe : FlagEngine) : StatusUpdate fe (aad al ah b fe).2 :=
  .of_agrees ⟨rfl, rfl, rfl⟩ (aad_agrees al ah b fe)

theorem baseFlags_update (r : Byte) (a b raw : Nat) (fe : FlagEngine) : StatusUpdate fe (baseFlags r a b raw fe) :=
  .of_agrees ⟨rfl, rfl, rfl⟩ (FlagEngine.agrees_of_allExplicit rfl)

theorem setFlags8_update (v : Byte) (fe : FlagEngine) : StatusUpdate fe (setFlags8 v fe) :=
  .of_agrees ⟨rfl, rfl, rfl⟩ (setFlags8_agrees v fe)

theorem setCarry_update (v : Bool) (fe : FlagEngine) : StatusUpdate fe (fe.setCarry v) :=
  ⟨⟨rfl, rfl, rfl⟩, setCarry_agrees v⟩

/-! ### Properties that the instructions keep -/

/-- A property of states that the elementary updates keep, a write of flags with the property `F` too, `F` being kept by
a write of the status flags, and the two ways an instruction enters a handler. -/
structure Kept (P : State → Prop) (F : FlagEngine → Prop) : Prop extends Stable P where
  flags : ∀ s, P s → F s.fe
  write : ∀ s fe, P s → F fe → P (s.setFlags fe)
  update : ∀ a b, F a → StatusUpdate a b → F b
  fault : ∀ f s, P s → P (handleFault f s)
  soft : ∀ n s, P s → P (softwareInterrupt n s)

section
variable {P : State → Prop} {F : FlagEngine → Prop} (hP : Kept P F)
include hP

theorem Kept.status {s t : State} {fe : FlagEngine} (hs : P s) (ht : P t) (h : StatusUpdate s.fe fe) :
    P (t.setFlags fe) :=
  hP.write t fe ht (hP.update _ _ (hP.flags s hs) h)

theorem Kept.outcome {r : Res Unit} (h : r.All P) {t : State} (e : r.outcome = .next t) : P t := by
  cases r with
  | ok a s => cases e; exact h
  | raise f s => cases e; exact hP.fault f s h

/-! #### ALU, shifts, tests -/

theorem aluCommit8_all (op : AluOp) (a b : Byte) {dest : Byte → State → Res Unit}
    (hd : ∀ v s, P s → (dest v s).All P) {s : State} (h : P s) : (aluCommit8 op a b dest s).All P := by
  unfold aluCommit8
  dsimp only
  split
  · exact (hd _ _ h).bind fun _ _ h' => hP.status h h' (aluApply_update (.inl rfl) op a b s.fe)
  · exact hP.status h h (aluApply_update (.inl rfl) op a b s.fe)

theorem aluCommit16_all (op : AluOp) (a b : Word) {dest : Word → State → Res Unit}
    (hd : ∀ v s, P s → (dest v s).All P) {s : State} (h : P s) : (aluCommit16 op a b dest s).All P := by
  unfold aluCommit16
  dsimp only
  split
  · exact (hd _ _ h).bind fun _ _ h' => hP.status h h' (aluApply_update (.inr rfl) op a b s.fe)
  · exact hP.status h h (aluApply_update (.inr rfl) op a b s.fe)

theorem aluRmR8_all (op m) {s : State} (h : P s) : (aluRmR8 op m s).All P :=
  (readEA8_all hP.toStable h _).bind fun _ _ h => (readRegField8_all hP.toStable h _).bind fun _ _ h =>
    aluCommit8_all hP _ _ _ (fun _ _ h => writeEA8_all hP.toStable h _ _) h

theorem aluRmR16_all (op m) {s : State} (h : P s) : (aluRmR16 op m s).All P :=
  (readEA16_all hP.toStable h _).bind fun _ _ h => (readRegField16_all hP.toStable h _).bind fun _ _ h =>
    aluCommit16_all hP _ _ _ (fun _ _ h => writeEA16_all hP.toStable h _ _) h

theorem aluRRm8_all (op m) {s : State} (h : P s) : (aluRRm8 op m s).All P :=
  (readEA8_all hP.toStable h _).bind fun _ _ h => (readRegField8_all hP.toStable h _).bind fun _ _ h =>
    aluCommit8_all hP _ _ _ (fun _ _ h => writeRegField8_all hP.toStable h _ _) h

theorem aluRRm16_all (op m) {s : State} (h : P s) : (aluRRm16 op m s).All P :=
  (readEA16_all hP.toStable h _).bind fun _ _ h => (readRegField16_all hP.toStable h _).bind fun _ _ h =>
    aluCommit16_all hP _ _ _ (fun _ _ h => writeRegField16_all hP.toStable h _ _) h

theorem aluAlImm_all (op i) {s : State} (h : P s) : (aluAlImm op i s).All P :=
  aluCommit8_all hP _ _ _ (dest := fun v s => .done (s.setReg8 .al v)) (fun _ s h => hP.setReg8 (s := s) h _ _) h

theorem aluAxImm_all (op i) {s : State} (h : P s) : (aluAxImm op i s).All P :=
  aluCommit16_all hP _ _ _ (dest := fun v s => .done (s.setReg16 .ax v)) (fun _ s h => hP.setReg16 (s := s) h _ _) h

theorem aluRmImm8_all (op m i) {s : State} (h : P s) : (aluRmImm8 op m i s).All P :=
  (readEA8_all hP.toStable h _).bind fun _ _ h =>
    aluCommit8_all hP _ _ _ (fun _ _ h => writeEA8_all hP.toStable h _ _) h

theorem aluRmImm16_all (op m i) {s : State} (h : P s) : (aluRmImm16 op m i s).All P :=
  (readEA16_all hP.toStable h _).bind fun _ _ h =>
    aluCommit16_all hP _ _ _ (fun _ _ h => writeEA16_all hP.toStable h _ _) h

theorem unaryRm8_all {f : Byte → FlagEngine → Byte × FlagEngine} (hf : ∀ a fe, StatusUpdate fe (f a fe).2) (m)
    {s : State} (h : P s) : (unaryRm8 f m s).All P :=
  (readEA8_all hP.toStable h _).bind fun a s h =>
    (writeEA8_all hP.toStable h _ _).bind fun _ _ h' => hP.status h h' (hf a s.fe)

theorem unaryRm16_all {f : Word → FlagEngine → Word × FlagEngine} (hf : ∀ a fe, StatusUpdate fe (f a fe).2) (m)
    {s : State} (h : P s) : (unaryRm16 f m s).All P :=
  (readEA16_all hP.toStable h _).bind fun a s h =>
    (writeEA16_all hP.toStable h _ _).bind fun _ _ h' => hP.status h h' (hf a s.fe)

theorem unaryR16_all {f : Word → FlagEngine → Word × FlagEngine} (hf : ∀ a fe, StatusUpdate fe (f a fe).2) (r)
    {s : State} (h : P s) : (unaryR16 f r s).All P :=
  hP.setReg16 (hP.status h h (hf _ _)) _ _

theorem testRmR8_all (m) {s : State} (h : P s) : (testRmR8 m s).All P :=
  (readEA8_all hP.toStable h _).bind fun _ _ h => (readRegField8_all hP.toStable h _).bind fun _ _ h =>
    hP.status h h (testFlags_update (.inl rfl) _ _ _)

theorem testRmR16_all (m) {s : State} (h : P s) : (testRmR16 m s).All P :=
  (readEA16_all hP.toStable h _).bind fun _ _ h => (readRegField16_all hP.toStable h _).bind fun _ _ h =>
    hP.status h h (testFlags_update (.inr rfl) _ _ _)

theorem testRmImm8_all (m i) {s : State} (h : P s) : (testRmImm8 m i s).All P :=
  (readEA8_all hP.toStable h _).bind fun _ _ h => hP.status h h (testFlags_update (.inl rfl) _ _ _)

theorem testRmImm16_all (m i) {s : State} (h : P s) : (testRmImm16 m i s).All P :=
  (readEA16_all hP.toStable h _).bind fun _ _ h => hP.status h h (testFlags_update (.inr rfl) _ _ _)

theorem shiftRm8_all (op m c) {s : State} (h : P s) : (shiftRm8 op m c s).All P :=
  (readEA8_all hP.toStable h _).bind fun _ _ h =>
    (writeEA8_all hP.toStable h _ _).bind fun _ _ h' => hP.status h h' (shiftApply_update _ _ _ _ _)

theorem shiftRm16_all (op m c) {s : State} (h : P s) : (shiftRm16 op m c s).All P :=
  (readEA16_all hP.toStable h _).bind fun _ _ h =>
    (writeEA16_all hP.toStable h _ _).bind fun _ _ h' => hP.status h h' (shiftApply_update _ _ _ _ _)

/-! #### Multiplication, division, decimal adjust -/

theorem mulAcc8_all {f : Byte → Byte → FlagEngine → Byte × Byte × FlagEngine}
    (hf : ∀ a b fe, StatusUpdate fe (f a b fe).2.2) (m) {s : State} (h : P s) : (mulAcc8 f m s).All P :=
  (readEA8_all hP.toStable h _).bind fun _ s h => hP.setReg16 (hP.status h h (hf _ _ s.fe)) _ _

theorem mulAcc16_all {f : Word → Word → FlagEngine → Word × Word × FlagEngine}
    (hf : ∀ a b fe, StatusUpdate fe (f a b fe).2.2) (m) {s : State} (h : P s) : (mulAcc16 f m s).All P :=
  (readEA16_all hP.toStable h _).bind fun _ s h =>
    hP.setReg16 (hP.setReg16 (hP.status h h (hf _ _ s.fe)) _ _) _ _

theorem imulImm_all (m i) {s : State} (h : P s) : (imulImm m i s).All P :=
  (readEA16_all hP.toStable h _).bind fun _ s h =>
    writeRegField16_all hP.toStable (hP.status h h (imul_update (.inr rfl) _ _ s.fe)) _ _

theorem divAcc8_all (f m) {s : State} (h : P s) : (divAcc8 f m s).All P :=
  (readEA8_all hP.toStable h _).bind fun _ s h => by
    split
    · exact h
    · exact hP.setReg16 (hP.status h h (divFlags_update _ _ _ _)) _ _

theorem divAcc16_all (f m) {s : State} (h : P s) : (divAcc16 f m s).All P :=
  (readEA16_all hP.toStable h _).bind fun _ s h => by
    split
    · exact h
    · exact hP.setReg16 (hP.setReg16 (hP.status h h (divFlags_update _ _ _ _)) _ _) _ _

theorem asciiAdjust_all {f : Byte → Byte → FlagEngine → Byte × Byte × FlagEngine}
    (hf : ∀ a b fe, StatusUpdate fe (f a b fe).2.2) {s : State} (h : P s) : (asciiAdjust f s).All P :=
  hP.setReg16 (hP.status h h (hf _ _ s.fe)) _ _

theorem decimalAdjust_all {f : Byte → FlagEngine → Byte × FlagEngine} (hf : ∀ a fe, StatusUpdate fe (f a fe).2)
    {s : State} (h : P s) : (decimalAdjust f s).All P :=
  hP.setReg8 (hP.status h h (hf _ s.fe)) _ _

theorem adjustAfterMultiply_all (b) {s : State} (h : P s) : (adjustAfterMultiply b s).All P := by
  unfold adjustAfterMultiply aam
  by_cases hb : b = 0
  · simp only [hb, if_true]; exact h
  · simp only [hb, if_false]; exact hP.setReg16 (hP.status h h (baseFlags_update _ _ _ _ _)) _ _

theorem adjustBeforeDivide_all (b) {s : State} (h : P s) : (adjustBeforeDivide b s).All P :=
  hP.setReg16 (hP.status h h (aad_update _ _ _ _)) _ _

/-! #### Moves and ports -/

theorem movRmR8_all (m) {s : State} (h : P s) : (movRmR8 m s).All P :=
  (readRegField8_all hP.toStable h _).bind fun _ _ h => writeEA8_all hP.toStable h _ _

theorem movRmR16_all (m) {s : State} (h : P s) : (movRmR16 m s).All P :=
  (readRegField16_all hP.toStable h _).bind fun _ _ h => writeEA16_all hP.toStable h _ _

theorem movRRm8_all (m) {s : State} (h : P s) : (movRRm8 m s).All P :=
  (readEA8_all hP.toStable h _).bind fun _ _ h => writeRegField8_all hP.toStable h _ _

theorem movRRm16_all (m) {s : State} (h : P s) : (movRRm16 m s).All P :=
  (readEA16_all hP.toStable h _).bind fun _ _ h => writeRegField16_all hP.toStable h _ _

theorem movSRegRm_all (r m) {s : State} (h : P s) : (movSRegRm r m s).All P :=
  (readEA16_all hP.toStable h _).bind fun _ _ h => writeSReg_all hP.toStable h _ _

theorem loadAddress_all (m) {s : State} (h : P s) : (loadAddress m s).All P :=
  (eaOffset_all hP.toStable h _).bind fun _ _ h => writeRegField16_all hP.toStable h _ _

theorem loadPointer_all (r m) {s : State} (h : P s) : (loadPointer r m s).All P :=
  (eaOffset_all hP.toStable h _).bind fun _ _ h => (readEAWordAt_all hP.toStable h _ _).bind fun _ _ h =>
    (readEAWordAt_all hP.toStable h _ _).bind fun _ _ h => (writeRegField16_all hP.toStable h _ _).bind fun _ _ h =>
      writeSReg_all hP.toStable h _ _

theorem exchange8_all (m) {s : State} (h : P s) : (exchange8 m s).All P :=
  (readEA8_all hP.toStable h _).bind fun _ _ h => (readRegField8_all hP.toStable h _).bind fun _ _ h =>
    (writeEA8_all hP.toStable h _ _).bind fun _ _ h => writeRegField8_all hP.toStable h _ _

theorem exchange16_all (m) {s : State} (h : P s) : (exchange16 m s).All P :=
  (readEA16_all hP.toStable h _).bind fun _ _ h => (readRegField16_all hP.toStable h _).bind fun _ _ h =>
    (writeEA16_all hP.toStable h _ _).bind fun _ _ h => writeRegField16_all hP.toStable h _ _

theorem exchangeAx_kept (r) {s : State} (h : P s) : P (exchangeAx r s) :=
  hP.setReg16 (hP.setReg16 h _ _) _ _

theorem translate_all {s : State} (h : P s) : (translate s).All P :=
  (memRead8_all h _ _).bind fun _ _ h => hP.setReg8 h _ _

theorem movAlMoffs_all (a) {s : State} (h : P s) :
    ((moffsRead8 a s).bind fun v s => .done (s.setReg8 .al v)).All P :=
  (memRead8_all h _ _).bind fun _ _ h => hP.setReg8 h _ _

theorem movAxMoffs_all (a) {s : State} (h : P s) :
    ((moffsRead16 a s).bind fun v s => .done (s.setReg16 .ax v)).All P :=
  (memRead16_all h _ _).bind fun _ _ h => hP.setReg16 h _ _

theorem in8_all (p) {s : State} (h : P s) : (in8 p s).All P :=
  (portRead8_all hP.toStable h _).bind fun _ _ h => hP.setReg8 h _ _

theorem in16_all (p) {s : State} (h : P s) : (in16 p s).All P :=
  (portRead16_all hP.toStable h _).bind fun _ _ h => hP.setReg16 h _ _

/-! #### The stack -/

theorem pushRm_all (m) {s : State} (h : P s) : (pushRm m s).All P :=
  (readEA16_all hP.toStable h _).bind fun _ _ h => push16_all hP.toStable h _

theorem popReg_all (r) {s : State} (h : P s) : (popReg r s).All P :=
  (pop16_all hP.toStable h).bind fun _ _ h => hP.setReg16 h _ _

theorem popRm_all (m) {s : State} (h : P s) : (popRm m s).All P :=
  (pop16_all hP.toStable (decodeModRM_all hP.toStable h m)).bind fun _ _ h => writeEA16_all hP.toStable h _ _

theorem popSReg_all (r) {s : State} (h : P s) : (popSReg r s).All P :=
  (pop16_all hP.toStable h).bind fun _ _ h => writeSReg_all hP.toStable h _ _

theorem pushList_all (l) : ∀ {s : State}, P s → (pushList l s).All P := by
  induction l with
  | nil => intro s h; exact h
  | cons v t ih => intro s h; exact (push16_all hP.toStable h _).bind fun _ _ h => ih h

theorem popAll_all {s : State} (h : P s) : (popAll s).All P :=
  (popReg_all hP _ h).bind fun _ _ h => (popReg_all hP _ h).bind fun _ _ h => (popReg_all hP _ h).bind fun _ _ h =>
    (pop16_all hP.toStable h).bind fun _ _ h => (popReg_all hP _ h).bind fun _ _ h =>
      (popReg_all hP _ h).bind fun _ _ h => (popReg_all hP _ h).bind fun _ _ h => popReg_all hP _ h

theorem copyFrames_all (n) : ∀ {s : State}, P s → (copyFrames n s).All P := by
  induction n with
  | zero => intro s h; exact h
  | succ n ih =>
    intro s h
    exact (memRead16_all (P := P) (hP.setReg16 h _ _) _ _).bind fun _ _ h =>
      (push16_all hP.toStable h _).bind fun _ _ h => ih h

theorem enterDisplay_all (f n) {s : State} (h : P s) : (enterDisplay f n s).All P := by
  unfold enterDisplay
  split
  · exact h
  · exact (copyFrames_all hP _ h).bind fun _ _ h => push16_all hP.toStable h _

theorem enterFrame_all (n l) {s : State} (h : P s) : (enterFrame n l s).All P :=
  (push16_all hP.toStable h _).bind fun _ _ h => (enterDisplay_all hP _ _ h).bind fun _ _ h =>
    hP.setReg16 (hP.setReg16 h _ _) _ _

theorem leave_all {s : State} (h : P s) : (popReg .bp (s.setSP s.regs.bp)).All P :=
  popReg_all hP _ (hP.setReg16 h _ _)

/-! #### Control transfer -/

theorem jumpIf_kept (c r) {s : State} (h : P s) : P (jumpIf c r s) := by
  unfold jumpIf
  split
  · exact hP.setIP h _
  · exact h

theorem loopIf_kept (c r) {s : State} (h : P s) : P (loopIf c r s) := jumpIf_kept hP _ _ (hP.setReg16 h _ _)

theorem jumpFarChecked_all (a b) {s : State} (h : P s) : (jumpFarChecked a b s).All P :=
  (checkCS_all h _).bind fun _ _ h => jumpFar_all hP.toStable h _ _

theorem farPointer_all (m) {s : State} (h : P s) : (farPointer m s).All P :=
  (eaOffset_all hP.toStable h _).bind fun _ _ h => (readEAWordAt_all hP.toStable h _ _).bind fun _ _ h =>
    (readEAWordAt_all hP.toStable h _ _).bind fun _ _ h => h

theorem callNear_all (a) {s : State} (h : P s) : (callNear a s).All P :=
  (push16_all hP.toStable h _).bind fun _ _ h => hP.setIP h _

theorem callFar_all (a b) {s : State} (h : P s) : (callFar a b s).All P :=
  (checkCS_all h _).bind fun _ _ h => (push16_all hP.toStable h _).bind fun _ _ h =>
    (push16_all hP.toStable h _).bind fun _ _ h => jumpFar_all hP.toStable h _ _

theorem callRm_all (m) {s : State} (h : P s) : ((readEA16 m s).bind fun t s => callNear t s).All P :=
  (readEA16_all hP.toStable h _).bind fun _ _ h => callNear_all hP _ h

theorem jmpRm_all (m) {s : State} (h : P s) : ((readEA16 m s).bind fun t s => .done (s.setIP t)).All P :=
  (readEA16_all hP.toStable h _).bind fun _ _ h => hP.setIP h _

theorem callFarMem_all (m) {s : State} (h : P s) : ((farPointer m s).bind fun p s => callFar p.2 p.1 s).All P :=
  (farPointer_all hP _ h).bind fun _ _ h => callFar_all hP _ _ h

theorem jmpFarMem_all (m) {s : State} (h : P s) : ((farPointer m s).bind fun p s => jumpFarChecked p.2 p.1 s).All P :=
  (farPointer_all hP _ h).bind fun _ _ h => jumpFarChecked_all hP _ _ h

theorem returnNear_all (n) {s : State} (h : P s) : (returnNear n s).All P :=
  (pop16_all hP.toStable h).bind fun _ _ h => hP.setReg16 (hP.setIP h _) _ _

theorem returnFar_all (n) {s : State} (h : P s) : (returnFar n s).All P :=
  (memRead16_all h _ _).bind fun _ _ h => (memRead16_all h _ _).bind fun _ _ h =>
    (checkCS_all h _).bind fun _ _ h => (jumpFar_all hP.toStable h _ _).bind fun _ _ h => hP.setReg16 h _ _

theorem checkBounds_all (m) {s : State} (h : P s) : (checkBounds m s).All P :=
  (eaOffset_all hP.toStable h _).bind fun _ _ h => (readEAWordAt_all hP.toStable h _ _).bind fun _ _ h =>
    (readEAWordAt_all hP.toStable h _ _).bind fun _ _ h => (readRegField16_all hP.toStable h _).bind fun _ _ h => by
      split <;> exact h

omit hP in
theorem unlessEscInvalid_all {r : Res Unit} {s : State} (h : P s) (hr : r.All P) : (unlessEscInvalid r s).All P := by
  unfold unlessEscInvalid
  split
  · exact hr
  · exact h

theorem escape_all (n m) {s : State} (h : P s) : (escape n m s).All P :=
  unlessEscInvalid_all (hP.setIP h _) (decodeModRM_all hP.toStable h m)

theorem into_kept {s : State} (h : P s) : P (if s.fe.of_ then softwareInterrupt s.params.vecOverflow s else s) := by
  split
  · exact hP.soft _ _ h
  · exact h

/-- IRET, where the flags of any image have the property. -/
theorem returnFromInterrupt_all (hF : ∀ v fe, F fe → F (setFlags16 v fe)) {s : State} (h : P s) :
    (returnFromInterrupt s).All P :=
  (memRead16_all h _ _).bind fun _ _ h => (memRead16_all h _ _).bind fun _ _ h =>
    (memRead16_all h _ _).bind fun _ _ h => (checkCS_all h _).bind fun _ _ h =>
      (jumpFar_all hP.toStable h _ _).bind fun _ s h => hP.setReg16 (hP.write s _ h (hF _ _ (hP.flags s h))) _ _

/-- POPF, where the flags of any image have the property. -/
theorem popf_all (hF : ∀ v fe, F fe → F (setFlags16 v fe)) {s : State} (h : P s) :
    ((pop16 s).bind fun v s => .done (s.setFlags (setFlags16 v s.fe))).All P :=
  (pop16_all hP.toStable h).bind fun _ s h => hP.write s _ h (hF _ _ (hP.flags s h))

/-! #### Strings -/

theorem movs8_all {s : State} (h : P s) : (movs8 s).All P :=
  (memRead8_all h _ _).bind fun _ _ h => (memWrite8_all hP.toStable h _ _ _).bind fun _ _ h =>
    hP.setReg16 (hP.setReg16 h _ _) _ _

theorem movs16_all {s : State} (h : P s) : (movs16 s).All P :=
  (memRead16_all h _ _).bind fun _ _ h => (memWrite16_all hP.toStable h _ _ _).bind fun _ _ h =>
    hP.setReg16 (hP.setReg16 h _ _) _ _

theorem cmps8_all {s : State} (h : P s) : (cmps8 s).All P :=
  (memRead8_all h _ _).bind fun _ _ h => (memRead8_all h _ _).bind fun _ _ h =>
    hP.setReg16 (hP.setReg16 (hP.status h h (cmpFlags_update (.inl rfl) _ _ _)) _ _) _ _

theorem cmps16_all {s : State} (h : P s) : (cmps16 s).All P :=
  (memRead16_all h _ _).bind fun _ _ h => (memRead16_all h _ _).bind fun _ _ h =>
    hP.setReg16 (hP.setReg16 (hP.status h h (cmpFlags_update (.inr rfl) _ _ _)) _ _) _ _

theorem scas8_all {s : State} (h : P s) : (scas8 s).All P :=
  (memRead8_all h _ _).bind fun _ _ h => hP.setReg16 (hP.status h h (cmpFlags_update (.inl rfl) _ _ _)) _ _

theorem scas16_all {s : State} (h : P s) : (scas16 s).All P :=
  (memRead16_all h _ _).bind fun _ _ h => hP.setReg16 (hP.status h h (cmpFlags_update (.inr rfl) _ _ _)) _ _

theorem lods8_all {s : State} (h : P s) : (lods8 s).All P :=
  (memRead8_all h _ _).bind fun _ _ h => hP.setReg16 (hP.setReg8 h _ _) _ _

theorem lods16_all {s : State} (h : P s) : (lods16 s).All P :=
  (memRead16_all h _ _).bind fun _ _ h => hP.setReg16 (hP.setReg16 h _ _) _ _

theorem stos8_all {s : State} (h : P s) : (stos8 s).All P :=
  (memWrite8_all hP.toStable h _ _ _).bind fun _ _ h => hP.setReg16 h _ _

theorem stos16_all {s : State} (h : P s) : (stos16 s).All P :=
  (memWrite16_all hP.toStable h _ _ _).bind fun _ _ h => hP.setReg16 h _ _

theorem ins8_all {s : State} (h : P s) : (ins8 s).All P :=
  (portRead8_all hP.toStable h _).bind fun _ _ h => (memWrite8_all hP.toStable h _ _ _).bind fun _ _ h =>
    hP.setReg16 h _ _

theorem ins16_all {s : State} (h : P s) : (ins16 s).All P :=
  (portRead16_all hP.toStable h _).bind fun _ _ h => (memWrite16_all hP.toStable h _ _ _).bind fun _ _ h =>
    hP.setReg16 h _ _

theorem outs8_all {s : State} (h : P s) : (outs8 s).All P :=
  (memRead8_all h _ _).bind fun _ _ h => (portWrite8_all hP.toStable h _ _).bind fun _ _ h => hP.setReg16 h _ _

theorem outs16_all {s : State} (h : P s) : (outs16 s).All P :=
  (memRead16_all h _ _).bind fun _ _ h => (portWrite16_all hP.toStable h _ _).bind fun _ _ h => hP.setReg16 h _ _

theorem repeatLoop_all (c) {it : State → Res Unit} (hi : ∀ {s}, P s → (it s).All P) (n : Nat) :
    ∀ {s : State}, P s → (repeatLoop c it n s).All P := by
  induction n with
  | zero => intro s h; exact h
  | succ n ih =>
    intro s h
    unfold repeatLoop
    split
    · exact h
    · refine (hi h).bind fun _ s h => ?_
      dsimp only
      split
      · exact hP.setReg16 h _ _
      · exact ih (hP.setReg16 h _ _)

theorem repeated_all (c) {it : State → Res Unit} (hi : ∀ {s}, P s → (it s).All P) {s : State} (h : P s) :
    (repeated c it s).All P := by
  unfold repeated
  split
  · exact hi h
  · exact repeatLoop_all hP _ hi _ h
  · exact repeatLoop_all hP _ hi _ h

end

/-! ### Every instruction -/

/-- The instructions that write the machinery or a control flag themselves. -/
def specialInstrs : List Instr :=
  [.popf, .iret, .prefixEs, .prefixCs, .prefixSs, .prefixDs, .prefixLock, .prefixRepne, .prefixRep, .hlt, .cli, .sti,
    .cld, .std]

theorem exec_kept {P : State → Prop} {F : FlagEngine → Prop} (hP : Kept P F) {i : Instr} (hi : i ∉ specialInstrs)
    {s t : State} (h : P s) (e : exec i s = .next t) : P t := by
  cases i with
  | addRm8R8 _ _ | orRm8R8 _ _ | adcRm8R8 _ _ | sbbRm8R8 _ _ | andRm8R8 _ _ | subRm8R8 _ _ | xorRm8R8 _ _
  | cmpRm8R8 _ _ =>
    exact hP.outcome (aluRmR8_all hP _ _ h) e
  | addRm16R16 _ _ | orRm16R16 _ _ | adcRm16R16 _ _ | sbbRm16R16 _ _ | andRm16R16 _ _ | subRm16R16 _ _
  | xorRm16R16 _ _ | cmpRm16R16 _ _ =>
    exact hP.outcome (aluRmR16_all hP _ _ h) e
  | addR8Rm8 _ _ | orR8Rm8 _ _ | adcR8Rm8 _ _ | sbbR8Rm8 _ _ | andR8Rm8 _ _ | subR8Rm8 _ _ | xorR8Rm8 _ _
  | cmpR8Rm8 _ _ =>
    exact hP.outcome (aluRRm8_all hP _ _ h) e
  | addR16Rm16 _ _ | orR16Rm16 _ _ | adcR16Rm16 _ _ | sbbR16Rm16 _ _ | andR16Rm16 _ _ | subR16Rm16 _ _
  | xorR16Rm16 _ _ | cmpR16Rm16 _ _ =>
    exact hP.outcome (aluRRm16_all hP _ _ h) e
  | addAlImm8 _ => exact hP.outcome (aluAlImm_all hP .add _ h) e
  | orAlImm8 _ => exact hP.outcome (aluAlImm_all hP .or _ h) e
  | adcAlImm8 _ => exact hP.outcome (aluAlImm_all hP .adc _ h) e
  | sbbAlImm8 _ => exact hP.outcome (aluAlImm_all hP .sbb _ h) e
  | andAlImm8 _ => exact hP.outcome (aluAlImm_all hP .and _ h) e
  | subAlImm8 _ => exact hP.outcome (aluAlImm_all hP .sub _ h) e
  | xorAlImm8 _ => exact hP.outcome (aluAlImm_all hP .xor _ h) e
  | cmpAlImm8 _ => exact hP.outcome (aluAlImm_all hP .cmp _ h) e
  | addAxImm16 _ => exact hP.outcome (aluAxImm_all hP .add _ h) e
  | orAxImm16 _ => exact hP.outcome (aluAxImm_all hP .or _ h) e
  | adcAxImm16 _ => exact hP.outcome (aluAxImm_all hP .adc _ h) e
  | sbbAxImm16 _ => exact hP.outcome (aluAxImm_all hP .sbb _ h) e
  | andAxImm16 _ => exact hP.outcome (aluAxImm_all hP .and _ h) e
  | subAxImm16 _ => exact hP.outcome (aluAxImm_all hP .sub _ h) e
  | xorAxImm16 _ => exact hP.outcome (aluAxImm_all hP .xor _ h) e
  | cmpAxImm16 _ => exact hP.outcome (aluAxImm_all hP .cmp _ h) e
  | incR16 _ =>
    exact hP.outcome (unaryR16_all hP (inc_update (.inr rfl)) _ h) e
  | decR16 _ =>
    exact hP.outcome (unaryR16_all hP (dec_update (.inr rfl)) _ h) e
  | pushR16 _ | pushImm16 _ | pushImm8s _ | pushEs | pushCs | pushSs | pushDs | pushf =>
    exact hP.outcome (push16_all hP.toStable h _) e
  | popR16 _ =>
    exact hP.outcome (popReg_all hP _ h) e
  | boundR16M _ _ =>
    exact hP.outcome (checkBounds_all hP _ h) e
  | imulR16Rm16Imm16 _ _ _ | imulR16Rm16Imm8s _ _ _ =>
    exact hP.outcome (imulImm_all hP _ _ h) e
  | joRel8 _ | jnoRel8 _ | jbRel8 _ | jaeRel8 _ | jeRel8 _ | jneRel8 _ | jbeRel8 _ | jaRel8 _ | jsRel8 _ | jnsRel8 _
  | jpRel8 _ | jnpRel8 _ | jlRel8 _ | jgeRel8 _ | jleRel8 _ | jgRel8 _ | jcxzRel8 _ =>
    cases e; exact jumpIf_kept hP _ _ h
  | addRm8Imm8 _ _ | orRm8Imm8 _ _ | adcRm8Imm8 _ _ | sbbRm8Imm8 _ _ | andRm8Imm8 _ _ | subRm8Imm8 _ _
  | xorRm8Imm8 _ _ | cmpRm8Imm8 _ _ | addRm8Imm8Op82 _ _ | orRm8Imm8Op82 _ _ | adcRm8Imm8Op82 _ _ | sbbRm8Imm8Op82 _ _
  | andRm8Imm8Op82 _ _ | subRm8Imm8Op82 _ _ | xorRm8Imm8Op82 _ _ | cmpRm8Imm8Op82 _ _ =>
    exact hP.outcome (aluRmImm8_all hP _ _ _ h) e
  | addRm16Imm16 _ _ | orRm16Imm16 _ _ | adcRm16Imm16 _ _ | sbbRm16Imm16 _ _ | andRm16Imm16 _ _ | subRm16Imm16 _ _
  | xorRm16Imm16 _ _ | cmpRm16Imm16 _ _ | addRm16Imm8s _ _ | orRm16Imm8s _ _ | adcRm16Imm8s _ _ | sbbRm16Imm8s _ _
  | andRm16Imm8s _ _ | subRm16Imm8s _ _ | xorRm16Imm8s _ _ | cmpRm16Imm8s _ _ =>
    exact hP.outcome (aluRmImm16_all hP _ _ _ h) e
  | testRm8R8 _ _ =>
    exact hP.outcome (testRmR8_all hP _ h) e
  | testRm16R16 _ _ =>
    exact hP.outcome (testRmR16_all hP _ h) e
  | xchgRm8R8 _ _ =>
    exact hP.outcome (exchange8_all hP _ h) e
  | xchgRm16R16 _ _ =>
    exact hP.outcome (exchange16_all hP _ h) e
  | movRm8R8 _ _ =>
    exact hP.outcome (movRmR8_all hP _ h) e
  | movRm16R16 _ _ =>
    exact hP.outcome (movRmR16_all hP _ h) e
  | movR8Rm8 _ _ =>
    exact hP.outcome (movRRm8_all hP _ h) e
  | movR16Rm16 _ _ =>
    exact hP.outcome (movRRm16_all hP _ h) e
  | movRm16Es _ | movRm16Cs _ | movRm16Ss _ | movRm16Ds _ | movRm16Imm16 _ _ =>
    exact hP.outcome (writeEA16_all hP.toStable h _ _) e
  | leaR16M _ _ =>
    exact hP.outcome (loadAddress_all hP _ h) e
  | movEsRm16 _ | movCsRm16 _ | movSsRm16 _ | movDsRm16 _ =>
    exact hP.outcome (movSRegRm_all hP _ _ h) e
  | popRm16 _ =>
    exact hP.outcome (popRm_all hP _ h) e
  | callFarDirect _ _ =>
    exact hP.outcome (callFar_all hP _ _ h) e
  | movAlMoffs8 _ =>
    exact hP.outcome (movAlMoffs_all hP _ h) e
  | movAxMoffs16 _ =>
    exact hP.outcome (movAxMoffs_all hP _ h) e
  | movMoffs8Al _ =>
    exact hP.outcome (memWrite8_all hP.toStable h _ _ _) e
  | movMoffs16Ax _ =>
    exact hP.outcome (memWrite16_all hP.toStable h _ _ _) e
  | testAlImm8 _ =>
    cases e; exact hP.status h h (testFlags_update (.inl rfl) _ _ _)
  | testAxImm16 _ =>
    cases e; exact hP.status h h (testFlags_update (.inr rfl) _ _ _)
  | movR8Imm8 _ _ | lahf =>
    cases e; exact hP.setReg8 h _ _
  | movR16Imm16 _ _ | cbw | cwd =>
    cases e; exact hP.setReg16 h _ _
  | rolRm8Imm8 _ _ | rorRm8Imm8 _ _ | rclRm8Imm8 _ _ | rcrRm8Imm8 _ _ | shlRm8Imm8 _ _ | shrRm8Imm8 _ _
  | sarRm8Imm8 _ _ | rolRm8By1 _ | rorRm8By1 _ | rclRm8By1 _ | rcrRm8By1 _ | shlRm8By1 _ | shrRm8By1 _ | sarRm8By1 _
  | rolRm8Cl _ | rorRm8Cl _ | rclRm8Cl _ | rcrRm8Cl _ | shlRm8Cl _ | shrRm8Cl _ | sarRm8Cl _ =>
    exact hP.outcome (shiftRm8_all hP _ _ _ h) e
  | rolRm16Imm8 _ _ | rorRm16Imm8 _ _ | rclRm16Imm8 _ _ | rcrRm16Imm8 _ _ | shlRm16Imm8 _ _ | shrRm16Imm8 _ _
  | sarRm16Imm8 _ _ | rolRm16By1 _ | rorRm16By1 _ | rclRm16By1 _ | rcrRm16By1 _ | shlRm16By1 _ | shrRm16By1 _
  | sarRm16By1 _ | rolRm16Cl _ | rorRm16Cl _ | rclRm16Cl _ | rcrRm16Cl _ | shlRm16Cl _ | shrRm16Cl _ | sarRm16Cl _ =>
    exact hP.outcome (shiftRm16_all hP _ _ _ h) e
  | retImm16 _ | ret =>
    exact hP.outcome (returnNear_all hP _ h) e
  | lesR16M _ _ | ldsR16M _ _ =>
    exact hP.outcome (loadPointer_all hP _ _ h) e
  | movRm8Imm8 _ _ =>
    exact hP.outcome (writeEA8_all hP.toStable h _ _) e
  | enterImm16Imm8 _ _ =>
    exact hP.outcome (enterFrame_all hP _ _ h) e
  | retfImm16 _ | retf =>
    exact hP.outcome (returnFar_all hP _ h) e
  | intImm8 _ | int3 =>
    cases e; exact hP.soft _ _ h
  | aamImm8 _ =>
    exact hP.outcome (adjustAfterMultiply_all hP _ h) e
  | aadImm8 _ =>
    exact hP.outcome (adjustBeforeDivide_all hP _ h) e
  | esc _ _ _ =>
    exact hP.outcome (escape_all hP _ _ h) e
  | loopneRel8 _ | loopeRel8 _ | loopRel8 _ =>
    cases e; exact loopIf_kept hP _ _ h
  | inAlImm8 _ | inAlDx =>
    exact hP.outcome (in8_all hP _ h) e
  | inAxImm8 _ | inAxDx =>
    exact hP.outcome (in16_all hP _ h) e
  | outImm8Al _ | outDxAl =>
    exact hP.outcome (portWrite8_all hP.toStable h _ _) e
  | outImm8Ax _ | outDxAx =>
    exact hP.outcome (portWrite16_all hP.toStable h _ _) e
  | callRel16 _ =>
    exact hP.outcome (callNear_all hP _ h) e
  | jmpRel16 _ | jmpRel8 _ =>
    cases e; exact hP.setIP h _
  | jmpFarDirect _ _ =>
    exact hP.outcome (jumpFarChecked_all hP _ _ h) e
  | testRm8Imm8 _ _ =>
    exact hP.outcome (testRmImm8_all hP _ _ h) e
  | notRm8 _ =>
    exact hP.outcome (unaryRm8_all hP complement_update _ h) e
  | negRm8 _ =>
    exact hP.outcome (unaryRm8_all hP (neg_update (.inl rfl)) _ h) e
  | mulRm8 _ =>
    exact hP.outcome (mulAcc8_all hP (mul_update (.inl rfl)) _ h) e
  | imulRm8 _ =>
    exact hP.outcome (mulAcc8_all hP (imul_update (.inl rfl)) _ h) e
  | divRm8 _ | idivRm8 _ =>
    exact hP.outcome (divAcc8_all hP _ _ h) e
  | testRm16Imm16 _ _ =>
    exact hP.outcome (testRmImm16_all hP _ _ h) e
  | notRm16 _ =>
    exact hP.outcome (unaryRm16_all hP complement_update _ h) e
  | negRm16 _ =>
    exact hP.outcome (unaryRm16_all hP (neg_update (.inr rfl)) _ h) e
  | mulRm16 _ =>
    exact hP.outcome (mulAcc16_all hP (mul_update (.inr rfl)) _ h) e
  | imulRm16 _ =>
    exact hP.outcome (mulAcc16_all hP (imul_update (.inr rfl)) _ h) e
  | divRm16 _ | idivRm16 _ =>
    exact hP.outcome (divAcc16_all hP _ _ h) e
  | incRm8 _ =>
    exact hP.outcome (unaryRm8_all hP (inc_update (.inl rfl)) _ h) e
  | decRm8 _ =>
    exact hP.outcome (unaryRm8_all hP (dec_update (.inl rfl)) _ h) e
  | incRm16 _ =>
    exact hP.outcome (unaryRm16_all hP (inc_update (.inr rfl)) _ h) e
  | decRm16 _ =>
    exact hP.outcome (unaryRm16_all hP (dec_update (.inr rfl)) _ h) e
  | callRm16 _ =>
    exact hP.outcome (callRm_all hP _ h) e
  | callFarMem _ =>
    exact hP.outcome (callFarMem_all hP _ h) e
  | jmpRm16 _ =>
    exact hP.outcome (jmpRm_all hP _ h) e
  | jmpFarMem _ =>
    exact hP.outcome (jmpFarMem_all hP _ h) e
  | pushRm16 _ =>
    exact hP.outcome (pushRm_all hP _ h) e
  | popEs | popSs | popDs =>
    exact hP.outcome (popSReg_all hP _ h) e
  | prefixEs | prefixCs | prefixSs | prefixDs | prefixLock | prefixRepne | prefixRep | hlt | cli | sti | cld | std
  | popf | iret =>
    exact absurd (by decide) hi
  | daa =>
    exact hP.outcome (decimalAdjust_all hP daa_update h) e
  | das =>
    exact hP.outcome (decimalAdjust_all hP das_update h) e
  | aaa =>
    exact hP.outcome (asciiAdjust_all hP aaa_update h) e
  | aas =>
    exact hP.outcome (asciiAdjust_all hP aas_update h) e
  | pusha =>
    exact hP.outcome (pushList_all hP _ h) e
  | popa =>
    exact hP.outcome (popAll_all hP h) e
  | insb =>
    exact hP.outcome (repeated_all hP _ (ins8_all hP) h) e
  | insw =>
    exact hP.outcome (repeated_all hP _ (ins16_all hP) h) e
  | outsb =>
    exact hP.outcome (repeated_all hP _ (outs8_all hP) h) e
  | outsw =>
    exact hP.outcome (repeated_all hP _ (outs16_all hP) h) e
  | nop =>
    cases e; exact h
  | xchgAxCx | xchgAxDx | xchgAxBx | xchgAxSp | xchgAxBp | xchgAxSi | xchgAxDi =>
    cases e; exact exchangeAx_kept hP _ h
  | wait =>
    exact hP.outcome (unlessEscInvalid_all (r := .done s) h h) e
  | sahf =>
    cases e; exact hP.status h h (setFlags8_update _ _)
  | movsb =>
    exact hP.outcome (repeated_all hP _ (movs8_all hP) h) e
  | movsw =>
    exact hP.outcome (repeated_all hP _ (movs16_all hP) h) e
  | cmpsb =>
    exact hP.outcome (repeated_all hP _ (cmps8_all hP) h) e
  | cmpsw =>
    exact hP.outcome (repeated_all hP _ (cmps16_all hP) h) e
  | stosb =>
    exact hP.outcome (repeated_all hP _ (stos8_all hP) h) e
  | stosw =>
    exact hP.outcome (repeated_all hP _ (stos16_all hP) h) e
  | lodsb =>
    exact hP.outcome (repeated_all hP _ (lods8_all hP) h) e
  | lodsw =>
    exact hP.outcome (repeated_all hP _ (lods16_all hP) h) e
  | scasb =>
    exact hP.outcome (repeated_all hP _ (scas8_all hP) h) e
  | scasw =>
    exact hP.outcome (repeated_all hP _ (scas16_all hP) h) e
  | leave =>
    exact hP.outcome (leave_all hP h) e
  | into =>
    cases e; exact into_kept hP h
  | xlat =>
    exact hP.outcome (translate_all hP h) e
  | cmc | clc | stc =>
    cases e; exact hP.status h h (setCarry_update _ _)

end Sys2Proof.Machine
end

section
/-! The invariant is kept by every step (10_state section 7.1, 20_memory section 1). -/

namespace Sys2Proof.Machine

/-! ### The fetch -/

section
variable {P : State → Prop} (hP : Stable P)
include hP

theorem fetch8_all {s : State} (h : P s) : (fetch8 s).All P :=
  (memRead8_all h _ _).bind fun _ _ h => hP.setIP h _

theorem fetchBytes_all (n : Nat) : ∀ {s : State}, P s → (fetchBytes n s).All P := by
  induction n with
  | zero => intro s h; exact h
  | succ n ih => intro s h; exact (fetch8_all hP h).bind fun _ _ h => (ih h).bind fun _ _ h => h

theorem openOperand_kept (bytes : List Byte) {s : State} (h : P s) : P (openOperand bytes s) := by
  unfold openOperand
  split
  · exact decodeModRM_all hP h _
  · exact h

theorem fetchImm_all (op m : Byte) (disp : List Byte) {s : State} (h : P s) : (fetchImm op m disp s).All P := by
  have hb := fetchBytes_all hP ((opShape op.toNat).immLen (rowByte s.params op m)) h
  unfold fetchImm
  split
  · rename_i e; rw [e] at hb; exact hb
  · rename_i e; rw [e] at hb; exact openOperand_kept hP _ hb

theorem decodedModRM_all (op m : Byte) (disp imm : List Byte) {s : State} (h : P s) :
    (decodedModRM op m disp imm s).All P := by
  unfold decodedModRM
  dsimp only
  split
  · split
    · exact h
    · exact openOperand_kept hP _ h
  · exact openOperand_kept hP _ h

omit hP in
theorem decodedPlain_all (op : Byte) (tail : List Byte) {s : State} (h : P s) : (decodedPlain op tail s).All P := by
  unfold decodedPlain
  split
  · exact h
  · split <;> exact h

theorem fetchModRM_all (op : Byte) {s : State} (h : P s) : (fetchModRM op s).All P := by
  refine (fetch8_all hP h).bind fun m s h => ?_
  split
  · exact h
  split
  · exact h
  refine (fetchBytes_all hP _ h).bind fun disp s h => ?_
  split
  · exact openOperand_kept hP _ h
  · exact (fetchImm_all hP _ _ _ h).bind fun _ _ h => decodedModRM_all hP _ _ _ _ h

theorem fetchInstr_all {s : State} (h : P s) : (fetchInstr s).All P := by
  refine (fetch8_all hP h).bind fun op s h => ?_
  split
  · exact h
  split
  · exact fetchModRM_all hP op h
  · exact (fetchBytes_all hP _ h).bind fun _ _ h => decodedPlain_all op _ h

end

/-! ### Instructions, slots, steps -/

/-- The invariant is a property that every instruction keeps. -/
theorem inv_kept : Kept State.Inv FlagEngine.recordAgrees where
  toStable := inv_stable
  flags _ h := h.record
  write _ _ h hf := h.setFlags hf
  update _ _ h hu := hu.agrees h
  fault f _ h := handleFault_inv f h
  soft n _ h := softwareInterrupt_inv n h

theorem exec_inv {i : Instr} {s t : State} (h : s.Inv) (e : exec i s = .next t) : t.Inv := by
  by_cases hi : i ∈ specialInstrs
  · simp only [specialInstrs, List.mem_cons, List.not_mem_nil, or_false] at hi
    obtain rfl | rfl | hi := hi
    · exact Res.outcome_inv (popf_all inv_kept (fun v fe _ => setFlags16_agrees v fe) h) e
    · exact Res.outcome_inv (returnFromInterrupt_inv h) e
    · obtain rfl | rfl | rfl | rfl | rfl | rfl | rfl | rfl | rfl | rfl | rfl | rfl := hi <;>
        (cases e; exact ⟨h.memory, h.record⟩)
  · exact exec_kept inv_kept hi h e

theorem beginSlot_inv {s : State} (h : s.Inv) : (beginSlot s).Inv := ⟨h.memory, h.record⟩

theorem afterFetch_inv {rest : State → Out} (hr : ∀ {s t : State}, s.Inv → rest s = .next t → t.Inv) {i : Instr}
    {s t : State} (h : s.Inv) (e : afterFetch rest i s = .next t) : t.Inv := by
  unfold afterFetch at e
  split at e
  · split at e
    · rename_i u eu; exact hr (exec_inv h eu) e
    · cases e
    · cases e
  · exact exec_inv h e

theorem slotBody_inv (n : Nat) : ∀ {s t : State}, s.Inv → slotBody n s = .next t → t.Inv := by
  induction n with
  | zero => intro s t _ e; cases e
  | succ n ih =>
    intro s t h e
    have hf := fetchInstr_all inv_stable h
    unfold slotBody at e
    split at e
    · rename_i ef; rw [ef] at hf; cases e; exact handleFault_inv _ hf
    · rename_i ef; rw [ef] at hf; exact afterFetch_inv ih hf e
    · rename_i ef; rw [ef] at hf; exact Res.outcome_inv (popSReg_all inv_kept _ hf) e
    · cases e

theorem endSlot_inv {s : State} (h : s.Inv) : (endSlot s).Inv := by
  unfold endSlot
  split
  · exact h
  · exact interruptCheck_inv h

theorem runSlot_inv {s t : State} (h : s.Inv) (e : runSlot s = .next t) : t.Inv := by
  unfold runSlot at e
  split at e
  · rename_i u eu; cases e; exact endSlot_inv (slotBody_inv _ (beginSlot_inv h) eu)
  · cases e
  · cases e

theorem wake_inv {s : State} (h : s.Inv) : (wake s).Inv := by
  unfold wake
  split
  · exact interruptCheck_inv ⟨h.memory, h.record⟩
  · exact h

/-- Settles O16: every instruction keeps the invariant (`exec_kept`), so do the fetch before it and the handling of
faults, interrupts and hooks around it. -/
theorem stepKeepsInvariant : Obligations.StepKeepsInvariant := by
  intro s t h e
  unfold step at e
  split at e
  · cases e
  split at e
  · cases e; exact wake_inv h
  · exact runSlot_inv h e

/-- Settles O17: memory right after reset is the empty list of writes, and every flag of the record is explicit. -/
theorem resetHasInvariant : Obligations.ResetHasInvariant :=
  ⟨⟨.nil, nofun⟩, FlagEngine.agrees_of_allExplicit rfl⟩

end Sys2Proof.Machine
end

section
/-! What no instruction changes (10_state sections 4 and 7, 60_exceptions sections 2 and 3). -/

namespace Sys2Proof.Machine
open Claims (sameMachinery sameControl)

/-- The machinery is as in `s`, but for the fatal reason a dispatch may set. -/
def KeepsMachinery (s t : State) : Prop := sameMachinery s { t with fatal := s.fatal }

/-- DF is as before, IF is not set, and TF is as before or cleared under DISPATCH_CLEARS_TF. -/
def ControlKept (clears : Bool) (a b : FlagEngine) : Prop :=
  b.df = a.df ∧ (b.if_ = true → a.if_ = true) ∧ (b.tf = a.tf ∨ clears = true ∧ b.tf = false)

theorem ControlKept.refl (c : Bool) (a : FlagEngine) : ControlKept c a a := ⟨rfl, id, .inl rfl⟩

theorem ControlKept.status {c : Bool} {o a b : FlagEngine} (h : ControlKept c o a) (hc : sameControl a b) :
    ControlKept c o b := by
  obtain ⟨ht, hi, hd⟩ := hc
  unfold ControlKept at h ⊢
  rwa [ht, hi, hd]

theorem ControlKept.enter {p : Params} {o a : FlagEngine} (h : ControlKept p.dispatchClearsTf o a) :
    ControlKept p.dispatchClearsTf o (enterFlags p a) := by
  obtain ⟨hd, -, ht⟩ := h
  refine ⟨hd, nofun, ?_⟩
  cases hc : p.dispatchClearsTf with
  | true => exact .inr ⟨rfl, by simp [enterFlags, hc]⟩
  | false =>
    obtain ht | ⟨h, -⟩ := ht
    · exact .inl (by simp [enterFlags, hc, ht])
    · rw [hc] at h; cases h

/-- The states whose machinery is that of `s` and whose flags have the property `G`. -/
def MachineryAnd (s : State) (G : FlagEngine → Prop) (t : State) : Prop := KeepsMachinery s t ∧ G t.fe

theorem KeepsMachinery.params {s t : State} (h : KeepsMachinery s t) : t.params = s.params := by
  obtain ⟨-, -, -, -, -, -, -, -, -, hp, -⟩ := h
  exact hp

theorem KeepsMachinery.hooks {s t : State} (h : KeepsMachinery s t) : t.hooks = s.hooks := by
  obtain ⟨-, -, -, -, -, -, -, -, -, -, -, hk, -⟩ := h
  exact hk

theorem machineryAnd_stable (s : State) (G : FlagEngine → Prop) : Stable (MachineryAnd s G) where
  put _ _ _ _ h := h
  regs _ _ h := h
  sregs _ _ h := h
  ip _ _ h := h
  ports _ _ h := h
  doc _ _ h := h

theorem MachineryAnd.stopFatal {s t : State} {G : FlagEngine → Prop} (h : MachineryAnd s G t) (w n k c) :
    MachineryAnd s G (t.stopFatal w n k c) := h

section
variable {s : State} {G : FlagEngine → Prop} (hG : ∀ fe, G fe → G (enterFlags s.params fe))

include hG in
theorem enterHandler_machinery (off sel : Word) {t : State} (h : MachineryAnd s G t) :
    (enterHandler off sel t).All (MachineryAnd s G) :=
  have hS := machineryAnd_stable s G
  (push16_all hS h _).bind fun _ _ h => (push16_all hS h _).bind fun _ _ h => (push16_all hS h _).bind fun _ u h => by
    obtain ⟨hm, hf⟩ := h
    have hp : u.params = s.params := hm.params
    exact jumpFar_all (s := u.setFlags (enterFlags u.params u.fe)) hS ⟨hm, by rw [hp]; exact hG _ hf⟩ _ _

include hG in
/-- Without an interrupt hook a dispatch keeps the machinery, and of the flags what the entry into a handler keeps. -/
theorem dispatch_machinery (hh : s.hooks.hostInt = none) (n k c) {t : State} (h : MachineryAnd s G t) :
    MachineryAnd s G (dispatch n k c t) := by
  have hk : t.hooks = s.hooks := h.1.hooks
  have hc : hostClaims t = (false, t) := by simp only [hostClaims, hk, hh]
  have hv := readVector_all h n
  unfold dispatch
  rw [hc]
  dsimp only
  split
  · rename_i e; rw [e] at hv; exact hv
  · rename_i off sel u e
    rw [e] at hv
    split
    · exact hv
    · have he := enterHandler_machinery hG off sel hv
      split
      · rename_i e; rw [e] at he; exact he
      · rename_i e; rw [e] at he; exact he

include hG in
theorem handleFault_machinery (hh : s.hooks.hostInt = none) (f : CpuFault) {t : State} (h : MachineryAnd s G t) :
    MachineryAnd s G (handleFault f t) := by
  unfold handleFault
  apply dispatch_machinery hG hh
  split <;> exact h

include hG in
theorem softwareInterrupt_machinery (hd : s.hooks.debug = none) (hh : s.hooks.hostInt = none) (n : Byte) {t : State}
    (h : MachineryAnd s G t) : MachineryAnd s G (softwareInterrupt n t) := by
  have hk : t.hooks = s.hooks := h.1.hooks
  have ha : softIntAllowed t = (true, t) := by simp only [softIntAllowed, hk, hd]
  unfold softwareInterrupt
  rw [ha]
  exact dispatch_machinery hG hh _ _ _ h

include hG in
/-- Without hooks the machinery is kept by every ordinary instruction, with what holds of the flags however the status
flags are written and a handler is entered. -/
theorem machineryAnd_kept (hd : s.hooks.debug = none) (hh : s.hooks.hostInt = none)
    (hU : ∀ a b, G a → StatusUpdate a b → G b) : Kept (MachineryAnd s G) G where
  toStable := machineryAnd_stable s G
  flags _ h := h.2
  write _ _ h hf := ⟨h.1, hf⟩
  update := hU
  fault f _ h := handleFault_machinery hG hh f h
  soft n _ h := softwareInterrupt_machinery hG hd hh n h

end

/-- What `WhatNoInstructionChanges` says of an instruction that no exception of it names. -/
theorem exec_keepsMachinery {i : Instr} {s t : State} (hi : i ∉ specialInstrs) (hd : s.hooks.debug = none)
    (hh : s.hooks.hostInt = none) (e : exec i s = .next t) :
    KeepsMachinery s t ∧ ControlKept s.params.dispatchClearsTf s.fe t.fe :=
  exec_kept (machineryAnd_kept (G := ControlKept s.params.dispatchClearsTf s.fe) (fun _ h => h.enter) hd hh
    fun _ _ h hu => h.status hu.control) hi (s := s) ⟨by simp [KeepsMachinery, sameMachinery], .refl _ _⟩ e

/-- POPF and IRET load the flags, and keep the machinery. -/
theorem flagLoad_keepsMachinery {i : Instr} {s t : State} (hi : i = .popf ∨ i = .iret) (hd : s.hooks.debug = none)
    (hh : s.hooks.hostInt = none) (e : exec i s = .next t) : KeepsMachinery s t := by
  have hk : Kept (MachineryAnd s fun _ => True) fun _ => True :=
    machineryAnd_kept (fun _ h => h) hd hh fun _ _ h _ => h
  have hs : MachineryAnd s (fun _ => True) s := ⟨by simp [KeepsMachinery, sameMachinery], trivial⟩
  obtain rfl | rfl := hi
  · exact (hk.outcome (popf_all hk (fun _ _ h => h) hs) e).1
  · exact (hk.outcome (returnFromInterrupt_all hk (fun _ _ h => h) hs) e).1

/-- Settles O57: by the case of the instructions that write the machinery or a control flag themselves, and for all
others by `exec_kept`. -/
theorem whatNoInstructionChanges : Obligations.WhatNoInstructionChanges := by
  intro i s t hd hh e
  by_cases hl : i = .popf ∨ i = .iret
  · obtain ⟨h1, h2, h3, h4, h5, h6, h7, h8, -, h10, h11, h12, h13, h14⟩ := flagLoad_keepsMachinery hl hd hh e
    refine ⟨h10, h11, h12, h13, h14, h1, h5, h7, h8, fun _ => h6, fun _ => ⟨h2, h3, h4⟩, ?_⟩
    obtain rfl | rfl := hl <;> simp
  by_cases hi : i ∈ specialInstrs
  · simp only [specialInstrs, List.mem_cons, List.not_mem_nil, or_false, ← or_assoc (a := i = .popf), hl,
      false_or] at hi
    obtain rfl | rfl | rfl | rfl | rfl | rfl | rfl | rfl | rfl | rfl | rfl | rfl := hi <;>
      (cases e; simp [Instr.isPrefix])
  · obtain ⟨⟨h1, h2, h3, h4, h5, h6, h7, h8, -, h10, h11, h12, h13, h14⟩, hdf, hif, htf⟩ :=
      exec_keepsMachinery hi hd hh e
    exact ⟨h10, h11, h12, h13, h14, h1, h5, h7, h8, fun _ => h6, fun _ => ⟨h2, h3, h4⟩, fun _ => hdf, fun _ => hif,
      fun _ => htf⟩

end Sys2Proof.Machine
end

section
/-! The arithmetic and the logic of the ALU against its flags (40_alu_arith, 41_alu_logic, 42_alu_muldiv). -/

namespace Sys2Proof.Machine
open Claims

/-! ### ZF, SF and PF of a result -/

theorem parity_eq_evenOnes : ∀ b : Byte, parity b = evenOnes b := by decide +kernel

theorem evenOnes_setWidth {w : Nat} (r : BitVec w) : evenOnes (r.setWidth 8) = evenOnes r := by
  unfold evenOnes
  rw [List.filter_congr fun i hi => ?_]
  simp [List.mem_range.mp hi]

theorem setZsp_zspOf {w : Nat} (fe : FlagEngine) (r : BitVec w) : zspOf (fe.setZsp r) r := by
  refine ⟨?_, ?_, ?_⟩
  · simp [FlagEngine.setZsp, BitVec.toNat_eq]
  · simp [FlagEngine.setZsp, BitVec.msb_eq_toInt]
  · simp [FlagEngine.setZsp, parity_eq_evenOnes, evenOnes_setWidth]

/-! ### Carries out of a bit, and the signed range -/

theorem getLsbD_four {w : Nat} (x : BitVec w) : x.getLsbD 4 = decide (x.toNat / 16 % 2 = 1) := by
  rw [BitVec.getLsbD, Nat.testBit_eq_decide_div_mod_eq]

theorem addOverflow_eq {w : Nat} (a b r : BitVec w) : addOverflow a b r = ((r.msb ^^ a.msb) && (r.msb ^^ b.msb)) := by
  simp [addOverflow]

theorem subOverflow_eq {w : Nat} (a b r : BitVec w) : subOverflow a b r = ((r.msb ^^ a.msb) && (a.msb ^^ b.msb)) := by
  simp [subOverflow]

theorem auxCarry_eq {w : Nat} (a b r : BitVec w) : auxCarry a b r = (a.getLsbD 4 ^^ b.getLsbD 4 ^^ r.getLsbD 4) := by
  simp [auxCarry]

theorem addWith_overflow {w : Nat} (hw : w = 8 ∨ w = 16) (a b : BitVec w) (c : Bool) (fe : FlagEngine) :
    (addWith a b c fe).2.of_ = true ↔
      a.toInt + b.toInt + c.toNat < -2 ^ (w - 1) ∨ 2 ^ (w - 1) - 1 < a.toInt + b.toInt + c.toNat := by
  have ha := a.isLt
  have hb := b.isLt
  have hc := c.toNat_le
  simp only [addWith, addOverflow_eq, BitVec.msb_eq_decide, BitVec.toInt_eq_toNat_cond, BitVec.toNat_ofNat]
  obtain rfl | rfl := hw <;> simp <;> grind

theorem addWith_auxCarry {w : Nat} (hw : w = 8 ∨ w = 16) (a b : BitVec w) (c : Bool) (fe : FlagEngine) :
    (addWith a b c fe).2.af = true ↔ 16 ≤ a.toNat % 16 + b.toNat % 16 + c.toNat := by
  have hc := c.toNat_le
  simp only [addWith, auxCarry_eq, getLsbD_four, BitVec.toNat_ofNat]
  obtain rfl | rfl := hw <;> simp <;> grind

theorem addWith_carry {w : Nat} (a b : BitVec w) (c : Bool) (fe : FlagEngine) :
    (addWith a b c fe).2.cf = true ↔ 2 ^ w - 1 < a.toNat + b.toNat + c.toNat := by
  have := Nat.two_pow_pos w
  simp only [addWith, decide_eq_true_eq]
  omega

theorem subWith_overflow {w : Nat} (hw : w = 8 ∨ w = 16) (a b : BitVec w) (c : Bool) (fe : FlagEngine) :
    (subWith a b c fe).2.of_ = true ↔
      a.toInt - b.toInt - c.toNat < -2 ^ (w - 1) ∨ 2 ^ (w - 1) - 1 < a.toInt - b.toInt - c.toNat := by
  have ha := a.isLt
  have hb := b.isLt
  have hc := c.toNat_le
  simp only [subWith, subOverflow_eq, BitVec.msb_eq_decide, BitVec.toInt_eq_toNat_cond, BitVec.toNat_ofInt]
  obtain rfl | rfl := hw <;> simp <;> grind

theorem subWith_auxCarry {w : Nat} (hw : w = 8 ∨ w = 16) (a b : BitVec w) (c : Bool) (fe : FlagEngine) :
    (subWith a b c fe).2.af = true ↔ a.toNat % 16 < b.toNat % 16 + c.toNat := by
  have hc := c.toNat_le
  simp only [subWith, auxCarry_eq, getLsbD_four, BitVec.toNat_ofInt]
  obtain rfl | rfl := hw <;> simp <;> grind

theorem subWith_carry {w : Nat} (a b : BitVec w) (c : Bool) (fe : FlagEngine) :
    (subWith a b c fe).2.cf = true ↔ a.toNat < b.toNat + c.toNat := by
  simp only [subWith, decide_eq_true_eq]
  omega

/-! ### Additive arithmetic -/

/-- Settles O24: both operations are `addWith`; each flag is compared over the numbers. -/
theorem additionFlags : Obligations.AdditionFlags := by
  intro w a b fe op cin hw hop
  have e : op.apply a b fe = addWith a b cin fe := by obtain ⟨rfl, rfl⟩ | ⟨rfl, rfl⟩ := hop <;> rfl
  simp only [e]
  exact ⟨BitVec.toNat_ofNat _ _, addWith_carry a b cin fe, rfl, addWith_overflow hw a b cin fe, rfl,
    addWith_auxCarry hw a b cin fe, setZsp_zspOf fe _, rfl, rfl, rfl, rfl⟩

/-- Settles O25: both operations are `subWith`; each flag is compared over the numbers. -/
theorem subtractionFlags : Obligations.SubtractionFlags := by
  intro w a b fe op cin hw hop
  have e : op.apply a b fe = subWith a b cin fe := by obtain ⟨rfl, rfl⟩ | ⟨rfl, rfl⟩ := hop <;> rfl
  have hr : ((subWith a b cin fe).1.toNat : Int) = (a.toNat - b.toNat - cin.toNat : Int) % 2 ^ w := by
    have h := Int.emod_nonneg ((a.toNat : Int) - b.toNat - cin.toNat) (b := (2 ^ w : Nat)) (by positivity)
    simp only [subWith, BitVec.toNat_ofInt, Int.toNat_of_nonneg h]
    push_cast
    rfl
  simp only [e]
  exact ⟨hr, subWith_carry a b cin fe, rfl, subWith_overflow hw a b cin fe, rfl, subWith_auxCarry hw a b cin fe,
    setZsp_zspOf fe _, rfl, rfl, rfl, rfl⟩

/-- Settles O26: INC and DEC are those operations with CF put back (`keepCarry`). -/
theorem incDecKeepCarry : Obligations.IncDecKeepCarry :=
  fun _ _ _ _ => ⟨⟨rfl, rfl, rfl, rfl, rfl, rfl, rfl, rfl, rfl, rfl, rfl⟩, rfl, rfl, rfl, rfl, rfl, rfl, rfl, rfl, rfl,
    rfl, rfl⟩

/-! ### Logic -/

/-- Settles O27. -/
theorem logicFlagsForced : Obligations.LogicFlagsForced := by
  intro w a b fe _
  refine ⟨fun i => ⟨BitVec.getLsbD_and, BitVec.getLsbD_or, BitVec.getLsbD_xor⟩, rfl, fun op hop => ?_⟩
  obtain rfl | rfl | rfl := hop <;> exact ⟨rfl, rfl, rfl, setZsp_zspOf fe _, rfl, rfl, rfl⟩

/-! ### Multiplication -/

theorem mul_halves {w : Nat} (a b : BitVec w) :
    (BitVec.ofNat w (a.toNat * b.toNat / 2 ^ w)).toNat * 2 ^ w + (BitVec.ofNat w (a.toNat * b.toNat)).toNat =
      a.toNat * b.toNat := by
  have h : a.toNat * b.toNat / 2 ^ w < 2 ^ w :=
    Nat.div_lt_of_lt_mul (Nat.mul_lt_mul'' a.isLt b.isLt)
  rw [BitVec.toNat_ofNat, BitVec.toNat_ofNat, Nat.mod_eq_of_lt h, Nat.mul_comm, Nat.div_add_mod]

theorem mul_wide {w : Nat} (a b : BitVec w) :
    (BitVec.ofNat w (a.toNat * b.toNat / 2 ^ w) != 0) = true ↔ 2 ^ w ≤ a.toNat * b.toNat := by
  have h : a.toNat * b.toNat / 2 ^ w < 2 ^ w :=
    Nat.div_lt_of_lt_mul (Nat.mul_lt_mul'' a.isLt b.isLt)
  rw [bne_iff_ne, ne_eq, BitVec.toNat_eq, BitVec.toNat_ofNat, Nat.mod_eq_of_lt h]
  rw [show BitVec.toNat (0 : BitVec w) = 0 from BitVec.toNat_zero, Nat.div_eq_zero_iff_lt (Nat.two_pow_pos w), not_lt]

theorem imul_halves {w : Nat} (hw : w = 8 ∨ w = 16) (p : Int) (h : -2 ^ (2 * w - 1) ≤ p ∧ p < 2 ^ (2 * w - 1)) :
    (BitVec.ofInt w (p / 2 ^ w)).toInt * 2 ^ w + (BitVec.ofInt w p).toNat = p := by
  simp only [BitVec.toInt_ofInt, BitVec.toNat_ofInt, Int.bmod]
  obtain rfl | rfl := hw <;> simp at h ⊢ <;> grind

theorem imul_wide {w : Nat} (hw : w = 8 ∨ w = 16) (p : Int) :
    p ≠ (BitVec.ofInt w p).toInt ↔ p < -2 ^ (w - 1) ∨ 2 ^ (w - 1) ≤ p := by
  simp only [BitVec.toInt_ofInt, Int.bmod]
  obtain rfl | rfl := hw <;> simp <;> grind

theorem toInt_mul_bounds {w : Nat} (hw : w = 8 ∨ w = 16) (a b : BitVec w) :
    -2 ^ (2 * w - 1) ≤ a.toInt * b.toInt ∧ a.toInt * b.toInt < 2 ^ (2 * w - 1) := by
  have ha := a.le_toInt
  have ha' := a.toInt_lt
  have hb := b.le_toInt
  have hb' := b.toInt_lt
  obtain rfl | rfl := hw <;> norm_num at * <;> constructor <;> nlinarith

/-- Settles O28: the two halves are the product divided by 2^w with remainder. -/
theorem products : Obligations.Products := by
  intro w a b fe hw
  refine ⟨fun lo hi f e => ?_, fun lo hi f e => ?_⟩
  · cases e
    exact ⟨mul_halves a b, mul_wide a b, rfl, setZsp_zspOf fe _, rfl, rfl, rfl, rfl⟩
  · cases e
    exact ⟨imul_halves hw _ (toInt_mul_bounds hw a b), decide_eq_true_iff.trans (imul_wide hw _), rfl,
      setZsp_zspOf fe _, rfl, rfl, rfl, rfl⟩

/-! ### Division -/

theorem udivide_eq_none {w n d : Nat} : udivide w n d = none ↔ d = 0 ∨ 2 ^ w - 1 < n / d := by
  have := Nat.two_pow_pos w
  unfold udivide
  by_cases hd : d = 0
  · simp [hd]
  · simp [hd]
    omega

theorem udivide_eq_some {w n d : Nat} (hd : d < 2 ^ w) {q r : BitVec w} (h : udivide w n d = some (q, r)) :
    n = q.toNat * d + r.toNat ∧ r.toNat < d := by
  unfold udivide at h
  split at h
  · cases h
  split at h
  · cases h
  rename_i h0 hq
  cases h
  have hr : n % d < d := Nat.mod_lt _ (by omega)
  rw [BitVec.toNat_ofNat, BitVec.toNat_ofNat, Nat.mod_eq_of_lt (by omega), Nat.mod_eq_of_lt (by omega)]
  exact ⟨(Nat.div_add_mod' n d).symm, hr⟩

theorem sdivide_eq_none {w : Nat} {n d : Int} :
    sdivide w n d = none ↔ d = 0 ∨ n.tdiv d < -2 ^ (w - 1) ∨ 2 ^ (w - 1) - 1 < n.tdiv d := by
  unfold sdivide
  by_cases hd : d = 0
  · simp [hd]
  · simp only [hd, if_false, false_or, ite_eq_left_iff, reduceCtorEq, imp_false, not_not]

theorem toInt_ofInt_of_range {w : Nat} (hw : 0 < w) {x : Int} (h : -2 ^ (w - 1) ≤ x) (h' : x < 2 ^ (w - 1)) :
    (BitVec.ofInt w x).toInt = x := by
  rw [BitVec.toInt_ofInt]
  obtain ⟨k, rfl⟩ : ∃ k, w = k + 1 := ⟨w - 1, by omega⟩
  simp only [Nat.add_sub_cancel] at h h'
  refine Int.bmod_eq_of_le ?_ ?_ <;> push_cast [pow_succ] <;> omega

theorem sdivide_eq_some {w : Nat} (hw : 0 < w) {n d : Int} (hd : -2 ^ (w - 1) ≤ d) (hd' : d < 2 ^ (w - 1))
    {q r : BitVec w}
    (h : sdivide w n d = some (q, r)) :
    n = q.toInt * d + r.toInt ∧ r.toInt.natAbs < d.natAbs ∧
      (r.toInt = 0 ∨ (0 < r.toInt ∧ 0 < n) ∨ (r.toInt < 0 ∧ n < 0)) := by
  unfold sdivide at h
  split at h
  · cases h
  split at h
  · cases h
  rename_i h0 hq
  cases h
  have hr : (n.tmod d).natAbs < d.natAbs := by
    rw [Int.natAbs_tmod]; exact Nat.mod_lt _ (by omega)
  rw [toInt_ofInt_of_range hw (by omega) (by omega), toInt_ofInt_of_range hw (by omega) (by omega)]
  refine ⟨(Int.tdiv_mul_add_tmod n d).symm, hr, ?_⟩
  obtain hn | rfl | hn := lt_trichotomy n 0
  · have := Int.tmod_nonneg d (Int.neg_nonneg_of_nonpos hn.le)
    rw [Int.neg_tmod] at this
    omega
  · exact .inl (Int.zero_tmod d)
  · have := Int.tmod_nonneg d hn.le
    omega

/-- Settles O29. -/
theorem quotients : Obligations.Quotients := by
  intro w hw
  refine ⟨fun n d _ hd => ⟨udivide_eq_none, fun q r => udivide_eq_some hd⟩, fun n d _ _ hd hd' =>
    ⟨sdivide_eq_none, fun q r => sdivide_eq_some (by omega) hd hd'⟩⟩

end Sys2Proof.Machine
end

section
/-! Rotates and shifts bit by bit (43_alu_shift_rotate), and the flag images (10_state section 4). -/

namespace Sys2Proof.Machine
open Claims

/-! ### Rotates -/

theorem multiOverflow_table {κ : Type} [DecidableEq κ] (l : List (κ × Bool)) (k : κ) (v : Bool) :
    multiOverflow (.table l) k v = entryOr l k v := by
  induction l with
  | nil => rfl
  | cons e t ih => rw [multiOverflow_cons, ih]; rfl

theorem rotateOverflow_eq_rotateOF {w : Nat} (k : RotateKind) (r : BitVec w) (cf : Bool) :
    rotateOverflow k r cf = rotateOF k r cf := by
  cases k <;> rfl

/-- A result with the flags of `rotateFlags` is what the claim asks of a rotate. -/
theorem rotated_rotateFlags {w : Nat} {p : Params} {k : RotateKind} {a r : BitVec w} {n e : Nat} {cf : Bool}
    {bit : Nat → Bool} (fe : FlagEngine) (hbit : ∀ i < w, r.getLsbD i = bit i) :
    rotated p fe k a n (r, rotateFlags p k a n e r cf fe) e bit cf := by
  refine ⟨hbit, ?_, ?_, ?_, ?_, ?_, ?_, ?_, rotateFlags_control _ _ _ _ _ _ _ _, ?_⟩
  case refine_2 =>
    intro h
    simp only [rotateFlags, ← rotateOverflow_eq_rotateOF]
    split
    · rfl
    · rename_i he
      simp [h.resolve_left he]
  case refine_3 =>
    intro l he hl
    simp [rotateFlags, he, hl, multiOverflow_table, rotateOverflow_eq_rotateOF, FlagEngine.stored]
  case refine_8 => rw [rotateFlags_record]
  all_goals
    simp only [rotateFlags]
    split
    · rfl
    · split <;> rfl

theorem getLsbD_rotateLeft_mod {w : Nat} (x : BitVec w) {e i : Nat} (he : e < w) (hi : i < w) :
    (x.rotateLeft e).getLsbD i = x.getLsbD ((i + w - e) % w) := by
  rw [BitVec.getLsbD_rotateLeft, Nat.mod_eq_of_lt he]
  by_cases h : i < e
  · rw [Nat.mod_eq_of_lt (by omega), show i + w - e = w - e + i by omega]
    simp [h]
  · rw [Nat.mod_eq_sub_mod (by omega), Nat.mod_eq_of_lt (by omega), show i + w - e - w = i - e by omega]
    simp [h, hi]

theorem getLsbD_rotateRight_mod {w : Nat} (x : BitVec w) {e i : Nat} (he : e < w) (hi : i < w) :
    (x.rotateRight e).getLsbD i = x.getLsbD ((i + e) % w) := by
  rw [BitVec.getLsbD_rotateRight, Nat.mod_eq_of_lt he]
  by_cases h : i < w - e
  · rw [Nat.mod_eq_of_lt (by omega), Nat.add_comm]
    simp [h]
  · rw [Nat.mod_eq_sub_mod (by omega), Nat.mod_eq_of_lt (by omega), show i + e - w = i - (w - e) by omega]
    simp [h, hi]

theorem rol_rotated {w : Nat} (p : Params) (a : BitVec w) (n : Nat) (fe : FlagEngine) (hw : 0 < w) (he : n % w ≠ 0) :
    rotated p fe .rol a n (rol p a n fe) (n % w) (fun i => a.getLsbD ((i + w - n % w) % w))
      (a.getLsbD (w - n % w)) := by
  have hlt : n % w < w := Nat.mod_lt _ hw
  have hc : (a.rotateLeft (n % w)).getLsbD 0 = a.getLsbD (w - n % w) := by
    rw [getLsbD_rotateLeft_mod a hlt hw, Nat.mod_eq_of_lt (by omega), Nat.zero_add]
  simp only [rol, he, if_false, hc]
  exact rotated_rotateFlags fe fun i hi => getLsbD_rotateLeft_mod a hlt hi

theorem ror_rotated {w : Nat} (p : Params) (a : BitVec w) (n : Nat) (fe : FlagEngine) (hw : 0 < w) (he : n % w ≠ 0) :
    rotated p fe .ror a n (ror p a n fe) (n % w) (fun i => a.getLsbD ((i + n % w) % w)) (a.getLsbD (n % w - 1)) := by
  have hlt : n % w < w := Nat.mod_lt _ hw
  have hc : (a.rotateRight (n % w)).msb = a.getLsbD (n % w - 1) := by
    rw [BitVec.msb_eq_getLsbD_last, getLsbD_rotateRight_mod a hlt (by omega), Nat.mod_eq_sub_mod (by omega),
      Nat.mod_eq_of_lt (by omega), show w - 1 + n % w - w = n % w - 1 by omega]
  simp only [ror, he, if_false, hc]
  exact rotated_rotateFlags fe fun i hi => getLsbD_rotateRight_mod a hlt hi

theorem rcl_rotated {w : Nat} (p : Params) (a : BitVec w) (n : Nat) (fe : FlagEngine) (he : n % (w + 1) ≠ 0) :
    rotated p fe .rcl a n (rcl p a n fe) (n % (w + 1))
      (fun i => (BitVec.cons fe.cf a).getLsbD ((i + (w + 1) - n % (w + 1)) % (w + 1)))
      ((BitVec.cons fe.cf a).getLsbD ((w + (w + 1) - n % (w + 1)) % (w + 1))) := by
  have hlt : n % (w + 1) < w + 1 := Nat.mod_lt _ (by omega)
  simp only [rcl, he, if_false, BitVec.msb_eq_getLsbD_last, Nat.add_sub_cancel,
    getLsbD_rotateLeft_mod (BitVec.cons fe.cf a) hlt (Nat.lt_succ_self w)]
  refine rotated_rotateFlags fe fun i hi => ?_
  rw [BitVec.getLsbD_setWidth, getLsbD_rotateLeft_mod _ hlt (by omega)]
  simp [hi]

theorem rcr_rotated {w : Nat} (p : Params) (a : BitVec w) (n : Nat) (fe : FlagEngine) (he : n % (w + 1) ≠ 0) :
    rotated p fe .rcr a n (rcr p a n fe) (n % (w + 1))
      (fun i => (BitVec.cons fe.cf a).getLsbD ((i + n % (w + 1)) % (w + 1)))
      ((BitVec.cons fe.cf a).getLsbD ((w + n % (w + 1)) % (w + 1))) := by
  have hlt : n % (w + 1) < w + 1 := Nat.mod_lt _ (by omega)
  simp only [rcr, he, if_false, BitVec.msb_eq_getLsbD_last, Nat.add_sub_cancel,
    getLsbD_rotateRight_mod (BitVec.cons fe.cf a) hlt (Nat.lt_succ_self w)]
  refine rotated_rotateFlags fe fun i hi => ?_
  rw [BitVec.getLsbD_setWidth, getLsbD_rotateRight_mod _ hlt (by omega)]
  simp [hi]

theorem rotate_noop {w : Nat} (p : Params) (a : BitVec w) (n : Nat) (fe : FlagEngine) (he : n % w = 0)
    (h : n = 0 ∨ p.rotEff0 = .noop) : rol p a n fe = (a, fe) ∧ ror p a n fe = (a, fe) := by
  have hs : ¬(n ≠ 0 ∧ p.rotEff0 = .setcf) := by
    obtain rfl | h := h
    · simp
    · simp [h]
  simp only [rol, ror, he, if_true, if_neg hs, and_self]

theorem rotate_setcf {w : Nat} (p : Params) (a : BitVec w) (n : Nat) (fe : FlagEngine) (he : n % w = 0) (hn : n ≠ 0)
    (h : p.rotEff0 = .setcf) :
    rotated p fe .rol a n (rol p a n fe) 0 a.getLsbD (a.getLsbD 0) ∧
      rotated p fe .ror a n (ror p a n fe) 0 a.getLsbD (a.getLsbD (w - 1)) := by
  simp only [rol, ror, he, if_true, hn, ne_eq, not_false_eq_true, h, and_self, BitVec.msb_eq_getLsbD_last]
  exact ⟨rotated_rotateFlags fe fun _ _ => rfl, rotated_rotateFlags fe fun _ _ => rfl⟩

/-- Settles O30. -/
theorem rotateBits : Obligations.RotateBits := by
  intro w p a n fe hw
  have hw : 0 < w := by omega
  exact ⟨rotate_noop p a n fe, rotate_setcf p a n fe, fun h => ⟨by simp [rcl, h], by simp [rcr, h]⟩,
    fun h => ⟨rol_rotated p a n fe hw h, ror_rotated p a n fe hw h⟩,
    fun h => ⟨rcl_rotated p a n fe h, rcr_rotated p a n fe h⟩⟩

/-! ### Shifts -/

/-- A result with the flags of `shiftFlags` is what the claim asks of a shift. -/
theorem shifted_shiftFlags {w : Nat} (p : Params) (k : ShiftKind) (a r : BitVec w) (n raw : Nat) (cf : Bool)
    (fe : FlagEngine) (x : BitVec w × FlagEngine) (hx : x = (r, shiftFlags p k n a r raw cf fe)) :
    x.2.cf = cf ∧ shifted p fe k a n raw x := by
  subst hx
  have hcf : (shiftFlags p k n a r raw cf fe).cf = cf := by
    simp only [shiftFlags]
    split
    · rfl
    · split <;> rfl
  have hz : zspOf (shiftFlags p k n a r raw cf fe) r := by
    simp only [shiftFlags]
    split
    · exact setZsp_zspOf fe r
    · split <;> exact setZsp_zspOf fe r
  refine ⟨hcf, hz, shiftFlags_control _ _ _ _ _ _ _ _, ?_, ?_, ?_, shiftFlags_record _ _ _ _ _ _ _ _⟩
  · rw [hcf]
    rintro (⟨rfl, h⟩ | ⟨hn, h⟩)
    · obtain h | rfl := h
      · simp only [shiftFlags, if_true, shiftOverflow1, h]
      · cases h : p.shiftOf1 <;> simp only [shiftFlags, if_true, shiftOverflow1, h]
    · simp only [shiftFlags, if_neg hn, h]; rfl
  · rintro rfl h
    simp only [shiftFlags, if_true, shiftOverflow1, h]
    exact ⟨by rintro rfl; rfl, by rintro rfl; rfl⟩
  · intro l hn h
    rw [hcf]
    simp only [shiftFlags, if_neg hn, h, multiOverflow_table]
    rfl

/-- Settles O31. -/
theorem shiftBits : Obligations.ShiftBits := by
  intro w p a n fe hw
  refine ⟨fun h => by simp [shl, shr, sar, h], fun hn => ?_⟩
  have hl : shl p a n fe = (a <<< n, shiftFlags p .shl n a (a <<< n) (a.toNat * 2 ^ n) _ fe) := if_neg hn
  have hr : shr p a n fe = (a >>> n, shiftFlags p .shr n a (a >>> n) (a >>> n).toNat _ fe) := if_neg hn
  have hs : sar p a n fe = (a.sshiftRight n, shiftFlags p .sar n a (a.sshiftRight n) (a.sshiftRight n).toNat _ fe) :=
    if_neg hn
  obtain ⟨lcf, lsh⟩ := shifted_shiftFlags _ _ _ _ _ _ _ _ _ hl
  obtain ⟨rcf, rsh⟩ := shifted_shiftFlags _ _ _ _ _ _ _ _ _ hr
  obtain ⟨scf, ssh⟩ := shifted_shiftFlags _ _ _ _ _ _ _ _ _ hs
  refine ⟨⟨?_, lcf, lsh⟩, ⟨?_, rcf, by rw [hr]; rwa [hr] at rsh⟩, ?_, scf, by rw [hs]; rwa [hs] at ssh⟩
  · rw [hl, BitVec.toNat_shiftLeft, Nat.shiftLeft_eq]
  · rw [hr, BitVec.toNat_ushiftRight, Nat.shiftRight_eq_div_pow]
  · rw [hs, BitVec.toInt_sshiftRight, Int.shiftRight_eq_div_pow]
    push_cast
    rfl

/-! ### Flag images -/

theorem getLsbD_flagBit (v : Bool) {k : Nat} (hk : k < 16) (i : Nat) : (flagBit v k).getLsbD i = (v && i == k) := by
  cases v with
  | false => simp [flagBit]
  | true =>
    have h : (flagBit true k).getLsbD i = (decide (i < 16) && (1 <<< k).testBit i) := BitVec.getLsbD_ofNat _ _ _
    rw [h, Nat.one_shiftLeft, Nat.testBit_two_pow, Bool.eq_iff_iff]
    simp
    omega

theorem getLsbD_flagsImage16 (p : Params) (fe : FlagEngine) (i : Nat) :
    (flagsImage16 p fe).getLsbD i =
      (fe.cf && i == 0 || fe.pf && i == 2 || fe.af && i == 4 || fe.zf && i == 6 || fe.sf && i == 7 || fe.tf && i == 8 ||
        fe.if_ && i == 9 || fe.df && i == 10 || fe.of_ && i == 11 || p.flagsFixedOnes.getLsbD i) := by
  simp [flagsImage16, getLsbD_flagBit]

/-- The places of the nine flags in the 16-bit image (10_state R75). -/
def flagPlaces : List Nat := [0, 2, 4, 6, 7, 8, 9, 10, 11]

section
variable {p : Params} (hp : p.flagsFixedOnes &&& 0x0FD5 = 0)
include hp

theorem fixedOnes_at_flag {i : Nat} (hi : i ∈ flagPlaces) : p.flagsFixedOnes.getLsbD i = false := by
  have h : (p.flagsFixedOnes &&& 0x0FD5).getLsbD i = false := by rw [hp]; simp
  have h1 : ∀ i ∈ flagPlaces, (0x0FD5 : Word).getLsbD i = true := by decide
  rwa [BitVec.getLsbD_and, h1 i hi, Bool.and_true] at h

theorem flagsImage16_highPlaces (fe : FlagEngine) : highPlaces (flagsImage16 p fe) fe := by
  have h := fun i => fixedOnes_at_flag (i := i) hp
  refine ⟨?_, ?_, ?_, ?_⟩ <;> rw [getLsbD_flagsImage16, h _ (by decide)] <;> simp

theorem flagsImage8_lowPlaces (fe : FlagEngine) : lowPlaces (flagsImage8 p fe) fe := by
  have h := fun i => fixedOnes_at_flag (i := i) hp
  have h8 : ∀ i < 8, (flagsImage8 p fe).getLsbD i = (flagsImage16 p fe).getLsbD i := fun i hi => by
    simp [flagsImage8, hi]
  refine ⟨?_, ?_, ?_, ?_, ?_⟩ <;> rw [h8 _ (by decide), getLsbD_flagsImage16, h _ (by decide)] <;> simp

theorem setFlags16_flagsImage16 (fe g : FlagEngine) : sameFlags fe (setFlags16 (flagsImage16 p fe) g) := by
  have h := fun i => fixedOnes_at_flag (i := i) hp
  refine ⟨?_, ?_, ?_, ?_, ?_, ?_, ?_, ?_, ?_⟩ <;>
    (simp only [setFlags16]; rw [getLsbD_flagsImage16, h _ (by decide)]; simp)

end

theorem flagsImage16_setFlags16 (p : Params) (v : Word) (g : FlagEngine) :
    flagsImage16 p (setFlags16 v g) = (v &&& 0x0FD5) ||| p.flagsFixedOnes := by
  refine BitVec.eq_of_getLsbD_eq fun i hi => ?_
  rw [getLsbD_flagsImage16, BitVec.getLsbD_or, BitVec.getLsbD_and]
  congr 1
  interval_cases i <;> simp [setFlags16]

theorem flagsImage16_fixed (p : Params) (fe : FlagEngine) :
    flagsImage16 p fe &&& 0xF02A = p.flagsFixedOnes &&& 0xF02A := by
  refine BitVec.eq_of_getLsbD_eq fun i hi => ?_
  rw [BitVec.getLsbD_and, BitVec.getLsbD_and, getLsbD_flagsImage16]
  interval_cases i <;> simp

theorem setFlags8_sameFlags {b : Byte} {fe : FlagEngine} (h : lowPlaces b fe) : sameFlags fe (setFlags8 b fe) := by
  obtain ⟨hc, hp, ha, hz, hs⟩ := h
  exact ⟨hc, hp, ha, hz, hs, rfl, rfl, rfl, rfl⟩

/-- Settles O32: bit by bit (`getLsbD_flagsImage16`). -/
theorem flagImageLaws : Obligations.FlagImageLaws := by
  intro p fe g v hp
  refine ⟨setFlags16_flagsImage16 hp fe g, flagsImage16_setFlags16 p v g, flagsImage16_fixed p fe,
    setFlags8_sameFlags (flagsImage8_lowPlaces hp fe), rfl,
    fun b => ⟨rfl, rfl, ⟨rfl, rfl, rfl⟩, rfl, rfl, rfl, rfl, rfl⟩,
    flagsImage8_lowPlaces hp fe, flagsImage8_lowPlaces hp fe, flagsImage16_highPlaces hp fe, ?_, rfl, rfl, rfl, rfl⟩
  refine ⟨?_, ?_, ?_, ?_, ?_⟩ <;> simp [setFlags16]

/-! ### The worked examples -/

/-- Settles O4. -/
theorem sampleWords : Obligations.SampleWords := by
  refine ⟨?_, ?_, ?_, ?_, ?_, ?_, ?_, ?_, ?_⟩ <;> rfl

end Sys2Proof.Machine
end

section
/-! The accesses to memory and stack through the claims' predicates, and what a write leaves unchanged (20_memory
sections 1 and 2, 47_stack section 1). -/

namespace Sys2Proof.Machine
open Claims

/-! ### Memory away from a write -/

theorem findCell_putCell_of_ne (l : List Host.Cell) {a b : Nat} (v : Byte) (h : b ≠ a) :
    findCell (putCell l a v) b = findCell l b := by
  induction l with
  | nil => simp [putCell, findCell, h]
  | cons c t ih =>
    obtain ⟨k, x⟩ := c
    simp only [putCell]
    split
    · simp [findCell, h]
    · split
      · rename_i _ hk; subst hk; simp [findCell, h]
      · simp [findCell, ih]

theorem findCell_dropCell_of_ne (l : List Host.Cell) {a b : Nat} (h : b ≠ a) :
    findCell (dropCell l a) b = findCell l b := by
  induction l with
  | nil => rfl
  | cons c t ih =>
    obtain ⟨k, x⟩ := c
    simp only [dropCell]
    split
    · rename_i hk; subst hk; simp [findCell, h]
    · simp [findCell, ih]

/-- No byte but the one stored changes, canonical or not. -/
theorem Memory.read_write_of_ne (m : Memory) {a b : Nat} (v : Byte) (h : b ≠ a) : (m.write a v).read b = m.read b := by
  unfold Memory.write Memory.read
  split
  · rw [findCell_dropCell_of_ne _ h]
  · rw [findCell_putCell_of_ne _ _ h]

theorem State.byteAt_putByte_of_not_mem {s : State} {seg off seg' off' : Word} (v : Byte)
    (h : busAddr s.bus.map seg' off' ∉ [busAddr s.bus.map seg off]) :
    (s.putByte seg off v).byteAt seg' off' = s.byteAt seg' off' :=
  Memory.read_write_of_ne _ _ (by simpa using h)

theorem State.byteAt_putWord_of_not_mem {s : State} {seg off seg' off' : Word} (v : Word)
    (h : busAddr s.bus.map seg' off' ∉ wordCells s seg off) :
    (s.putWord seg off v).byteAt seg' off' = s.byteAt seg' off' := by
  simp only [wordCells, List.mem_cons, List.not_mem_nil, or_false, not_or] at h
  exact (Memory.read_write_of_ne _ _ h.2).trans (Memory.read_write_of_ne _ _ h.1)

theorem State.putWord_wf {s : State} (h : s.mem.wf) (seg off v : Word) : (s.putWord seg off v).mem.wf :=
  Memory.write_wf _ _ (Memory.write_wf _ _ h)

/-- The low byte of a stored word. -/
theorem State.byteAt_putWord_low {s : State} (h : s.mem.wf) (seg off v : Word) :
    (s.putWord seg off v).byteAt seg off = lo8 v := by
  have hne : busAddr s.bus.map seg off ≠ busAddr s.bus.map seg (off + 1) :=
    busAddr_ne _ _ (off_succ_ne off).symm
  exact (Memory.read_write_of_ne _ _ hne).trans ((Memory.read_write h _ _ _).trans (if_pos rfl))

/-- The high byte of a stored word. -/
theorem State.byteAt_putWord_high {s : State} (h : s.mem.wf) (seg off v : Word) :
    (s.putWord seg off v).byteAt seg (off + 1) = hi8 v :=
  (Memory.read_write (Memory.write_wf _ _ h) _ _ _).trans (if_pos rfl)

theorem State.wordAt_putWord {s : State} (h : s.mem.wf) (seg off v : Word) :
    (s.putWord seg off v).wordAt seg off = v := by
  rw [State.wordAt, State.byteAt_putWord_low h, State.byteAt_putWord_high h, word16_hi8_lo8]

/-- A word of the same selector that overlaps no byte of the stored one. -/
theorem State.wordAt_putWord_of_ne {s : State} {seg off off' : Word} (v : Word) (h0 : off' ≠ off) (h1 : off' ≠ off + 1)
    (h2 : off' + 1 ≠ off) : (s.putWord seg off v).wordAt seg off' = s.wordAt seg off' := by
  have h3 : off' + 1 ≠ off + 1 := fun e => h0 (by simpa using e)
  rw [State.wordAt, State.wordAt, State.byteAt_putWord_of_not_mem, State.byteAt_putWord_of_not_mem] <;>
    simp only [wordCells, List.mem_cons, List.not_mem_nil, or_false, not_or] <;>
    exact ⟨busAddr_ne _ _ ‹_›, busAddr_ne _ _ ‹_›⟩

/-! ### Accesses that the bus answers -/

theorem memRead16_of_readable {s : State} {seg off : Word} (h : readable16 s seg off) :
    memRead16 seg off s = .ok (s.wordAt seg off) s :=
  memRead16_eq h.1 h.2

theorem memWrite16_of_writable {s : State} {seg off : Word} (v : Word) (h : writable16 s seg off) :
    memWrite16 seg off v s = .ok () (s.putWord seg off v) :=
  memWrite16_eq v h.1 h.2

theorem push16_of_canPush {s : State} (v : Word) (h : canPush s) : push16 v s = .ok () (pushed v s) :=
  push16_eq v h.1 h.2

theorem canPop_zero (s : State) : canPop s 0 = readable16 s s.sregs.ss s.regs.sp :=
  congrArg (readable16 s s.sregs.ss) (BitVec.add_zero _)

theorem stacked_zero (s : State) : stacked s 0 = s.wordAt s.sregs.ss s.regs.sp :=
  congrArg (s.wordAt s.sregs.ss) (BitVec.add_zero _)

theorem pop16_of_canPop {s : State} (h : canPop s 0) : pop16 s = .ok (stacked s 0) (s.setSP (s.regs.sp + 2)) := by
  rw [canPop_zero] at h
  rw [stacked_zero]
  exact pop16_eq h.1 h.2

/-! ### Accesses that the bus refuses -/

theorem memRead16_of_refused {s : State} {seg off : Word} {f : CpuFault} (h : wordReadRefused s seg off f) :
    memRead16 seg off s = .raise f s := by
  obtain h | ⟨h, h'⟩ := h
  · exact memRead16_refused h
  · exact memRead16_refused_second h h'

theorem memWrite16_of_refused {s t : State} {seg off v : Word} {f : CpuFault} (h : wordWriteRefused s seg off v f t) :
    memWrite16 seg off v s = .raise f t := by
  obtain ⟨h, rfl⟩ | ⟨h, h', rfl⟩ := h
  · exact memWrite16_refused v h
  · exact memWrite16_refused_second v h h'

theorem push16_of_refused {s t : State} {v : Word} {f : CpuFault} (h : pushRefused s v f t) :
    push16 v s = .raise f t :=
  push16_refused (memWrite16_of_refused h)

theorem pop16_of_refused {s : State} {f : CpuFault} (h : wordReadRefused s s.sregs.ss s.regs.sp f) :
    pop16 s = .raise f s :=
  pop16_refused (memRead16_of_refused h)

/-- Settles O19. -/
theorem wordAccessIsTwoBytes : Obligations.WordAccessIsTwoBytes :=
  ⟨fun _ _ _ h => memRead16_of_readable h, fun _ _ _ _ h => memRead16_of_refused h,
    fun s seg off v hw h => ⟨s.putWord seg off v, memWrite16_of_writable v h, State.byteAt_putWord_low hw seg off v,
      State.byteAt_putWord_high hw seg off v, fun _ _ => State.byteAt_putWord_of_not_mem v⟩,
    fun _ _ _ _ _ _ h => memWrite16_of_refused h⟩

/-! ### Push and pop -/

/-- What a push changes: SP and the word at SS:SP-2. -/
theorem framed_pushed (s : State) (v : Word) :
    framed s (pushed v s) [.sp] false (wordCells s s.sregs.ss (s.regs.sp - 2)) := by
  refine ⟨fun r hr => ?_, rfl, fun _ => rfl, rfl, rfl, rfl, ?_, rfl, fun _ _ => State.byteAt_putWord_of_not_mem v⟩
  · exact State.reg16_setReg16_of_ne _ _ (by simpa using hr)
  · simp [sameMachinery, pushed]

/-- Settles O20. -/
theorem popUndoesPush : Obligations.PopUndoesPush := by
  refine ⟨fun s v hw hp hr => ?_, fun _ _ _ _ h => push16_of_refused h, fun _ _ h => pop16_of_refused h⟩
  have hpop : pop16 (pushed v s) = .ok v ((pushed v s).setSP (s.regs.sp - 2 + 2)) := by
    rw [pop16_of_canPop ((canPop_zero _).mpr hr), stacked_zero]
    exact congrArg (Res.ok · _) (State.wordAt_putWord hw _ _ v)
  refine ⟨pushed v s, _, push16_of_canPush v hp, rfl, framed_pushed s v, hpop, ?_, rfl⟩
  rw [BitVec.sub_add_cancel]
  rfl

end Sys2Proof.Machine
end

section
/-! The operand accessors through the claims' predicates (46_operand_access_moves section 1, 30_encoding section 4). -/

namespace Sys2Proof.Machine
open Claims

/-! ### The decode of a slot -/

theorem decodeModRM_opened {m : ModRM} {s : State} (h : fresh s) : decodeModRM m s = opened m s := decodeModRM_fresh h

@[simp] theorem opened_valid (m : ModRM) (s : State) : (opened m s).doc.valid = true := ModRM.cache_valid m s

/-- A state of the slot after its operand is decoded: the cache is that of the decode, the bus the same. -/
structure Decoded (m : ModRM) (s t : State) : Prop where
  doc : t.doc = m.cache s
  bus : t.bus = s.bus

theorem decoded_opened (m : ModRM) (s : State) : Decoded m s (opened m s) := ⟨rfl, rfl⟩

theorem Decoded.valid {m : ModRM} {s t : State} (h : Decoded m s t) : t.doc.valid = true := by
  rw [h.doc]; exact ModRM.cache_valid m s

theorem Decoded.reg {m : ModRM} {s t : State} (h : Decoded m s t) : t.doc.reg = m.reg := by
  rw [h.doc]; exact ModRM.cache_reg m s

theorem Decoded.setFlags {m : ModRM} {s t : State} (h : Decoded m s t) (fe : FlagEngine) :
    Decoded m s (t.setFlags fe) :=
  ⟨h.doc, h.bus⟩

/-! ### Reads and writes of r/m -/

theorem readEA8_of_canRead {s : State} {rm : Rm Reg8} (g : BitVec 3) (hf : fresh s) (hr : canRead8 s rm) :
    readEA8 (modrm8 g rm) s = .ok (operand8 s rm) (opened (modrm8 g rm) s) := by
  cases rm with
  | reg r => exact readEA8_reg hf g r
  | mem e => exact readEA8_mem hf g e hr

theorem readEA16_of_canRead {s : State} {rm : Rm Reg16} (g : BitVec 3) (hf : fresh s) (hr : canRead16 s rm) :
    readEA16 (modrm16 g rm) s = .ok (operand16 s rm) (opened (modrm16 g rm) s) := by
  cases rm with
  | reg r => exact readEA16_reg hf g r
  | mem e => exact readEA16_mem hf g e hr.1 hr.2

theorem writeEA8_of_canWrite {s t : State} {rm : Rm Reg8} {g : BitVec 3} (h : Decoded (modrm8 g rm) s t)
    (hw : canWrite8 s rm) (m : ModRM) (v : Byte) : writeEA8 m v t = .ok () (assign8 s rm v t) := by
  cases rm with
  | reg r =>
    rw [writeEA8_reg h.valid (by rw [h.doc]; rfl)]
    rw [h.doc, (cache8_reg g r s).2, Reg8.ofNum_num]
    rfl
  | mem e =>
    have hs : t.doc.seg = eaSeg s e := by rw [h.doc]; rfl
    have ho : t.doc.off = eaOff s e := by rw [h.doc]; rfl
    rw [writeEA8_mem h.valid (by rw [h.doc]; rfl) _ _ (by rw [h.bus, hs, ho]; exact hw), hs, ho]
    rfl

theorem writeEA16_of_canWrite {s t : State} {rm : Rm Reg16} {g : BitVec 3} (h : Decoded (modrm16 g rm) s t)
    (hw : canWrite16 s rm) (m : ModRM) (v : Word) : writeEA16 m v t = .ok () (assign16 s rm v t) := by
  cases rm with
  | reg r =>
    rw [writeEA16_reg h.valid (by rw [h.doc]; rfl)]
    rw [h.doc, (cache16_reg g r s).2, Reg16.ofNum_num]
    rfl
  | mem e =>
    have hs : t.doc.seg = eaSeg s e := by rw [h.doc]; rfl
    have ho : t.doc.off = eaOff s e := by rw [h.doc]; rfl
    rw [writeEA16_mem h.valid (by rw [h.doc]; rfl) _ _ (by rw [h.bus, hs, ho]; exact hw.1)
      (by rw [h.bus, hs, ho]; exact hw.2), hs, ho]
    rfl

theorem writeEA8_of_refused {s t : State} {e : MemEA} {g : BitVec 3} {f : CpuFault}
    (h : Decoded (modrm8 g (.mem e)) s t) (hw : s.bus.refusal true (eaSeg s e) (eaOff s e) = some f) (m : ModRM)
    (v : Byte) : writeEA8 m v t = .raise f t :=
  writeEA8_refused h.valid (by rw [h.doc]; rfl) m v (by rw [h.bus, h.doc]; exact hw)

theorem writeEA16_of_refused {s t : State} {e : MemEA} {g : BitVec 3} {f : CpuFault}
    (h : Decoded (modrm16 g (.mem e)) s t) (hw : s.bus.refusal true (eaSeg s e) (eaOff s e) = some f) (m : ModRM)
    (v : Word) : writeEA16 m v t = .raise f t :=
  writeEA16_refused h.valid (by rw [h.doc]; rfl) m v (by rw [h.bus, h.doc]; exact hw)

/-! ### The register field -/

theorem readRegField8_decoded {m : ModRM} {s t : State} (h : Decoded m s t) {r : Reg8} (hr : m.reg = r.num) :
    readRegField8 m t = .ok (t.reg8 r) t := by
  rw [readRegField8_valid h.valid, h.reg, hr, Reg8.ofNum_num]

theorem readRegField16_decoded {m : ModRM} {s t : State} (h : Decoded m s t) {r : Reg16} (hr : m.reg = r.num) :
    readRegField16 m t = .ok (t.reg16 r) t := by
  rw [readRegField16_valid h.valid, h.reg, hr, Reg16.ofNum_num]

theorem writeRegField8_decoded {m : ModRM} {s t : State} (h : Decoded m s t) {r : Reg8} (hr : m.reg = r.num)
    (v : Byte) :
    writeRegField8 m v t = .ok () (t.setReg8 r v) := by
  rw [writeRegField8_valid h.valid, h.reg, hr, Reg8.ofNum_num]

theorem writeRegField16_decoded {m : ModRM} {s t : State} (h : Decoded m s t) {r : Reg16} (hr : m.reg = r.num)
    (v : Word) : writeRegField16 m v t = .ok () (t.setReg16 r v) := by
  rw [writeRegField16_valid h.valid, h.reg, hr, Reg16.ofNum_num]

theorem readRegField8_opened (r : Reg8) (rm : Rm Reg8) (s : State) :
    readRegField8 (modrm8 r.num rm) (opened (modrm8 r.num rm) s) = .ok (s.reg8 r) (opened (modrm8 r.num rm) s) :=
  readRegField8_decoded (decoded_opened _ s) rfl

theorem readRegField16_opened (r : Reg16) (rm : Rm Reg16) (s : State) :
    readRegField16 (modrm16 r.num rm) (opened (modrm16 r.num rm) s) = .ok (s.reg16 r) (opened (modrm16 r.num rm) s) :=
  readRegField16_decoded (decoded_opened _ s) rfl

theorem readRegField16_openedMem (r : Reg16) (m : MemEA) (s : State) :
    readRegField16 (modrmMem r.num m) (opened (modrmMem r.num m) s) = .ok (s.reg16 r) (opened (modrmMem r.num m) s) :=
  readRegField16_decoded (decoded_opened _ s) rfl

/-! ### Operands that must be memory -/

theorem eaOffset_mem {s : State} (g : BitVec 3) (m : MemEA) (hf : fresh s) :
    eaOffset (modrmMem g m) s = .ok (eaOff s m) (opened (modrmMem g m) s) := by
  simp only [eaOffset, decodeModRM_opened hf]
  rfl

theorem readEAWordAt_mem {s t : State} {g : BitVec 3} {m : MemEA} (h : Decoded (modrmMem g m) s t) (k : Word)
    (hr : readable16 t (eaSeg s m) (eaOff s m + k)) :
    readEAWordAt (modrmMem g m) k t = .ok (t.wordAt (eaSeg s m) (eaOff s m + k)) t := by
  have hs : t.doc.seg = eaSeg s m := by rw [h.doc]; rfl
  have ho : t.doc.off = eaOff s m := by rw [h.doc]; rfl
  simp only [readEAWordAt, decodeModRM_valid h.valid, hs, ho, memRead16_of_readable hr]

/-- The two words of a pair, read one after the other. -/
theorem readEAWordAt_pair {s : State} (g : BitVec 3) {m : MemEA} (hp : pairReadable s m) :
    readEAWordAt (modrmMem g m) 0 (opened (modrmMem g m) s) = .ok (pairLow s m) (opened (modrmMem g m) s) ∧
      readEAWordAt (modrmMem g m) 2 (opened (modrmMem g m) s) = .ok (pairHigh s m) (opened (modrmMem g m) s) := by
  have h0 : eaOff s m + 0 = eaOff s m := BitVec.add_zero _
  refine ⟨?_, readEAWordAt_mem (decoded_opened _ s) 2 hp.2⟩
  rw [readEAWordAt_mem (decoded_opened _ s) 0 (by rw [h0]; exact hp.1), h0]
  rfl

theorem farPointer_of_readable {s : State} (g : BitVec 3) {m : MemEA} (hf : fresh s) (hp : pairReadable s m) :
    farPointer (modrmMem g m) s = .ok (pairLow s m, pairHigh s m) (opened (modrmMem g m) s) := by
  obtain ⟨h0, h2⟩ := readEAWordAt_pair g hp
  simp only [farPointer, eaOffset_mem g m hf, Res.bind_ok, h0, h2]

/-! ### Effective addresses -/

theorem baseSeg_eq_tableSeg (b : EABase) : baseSeg b = tableSeg b.num.toNat := by cases b <;> rfl

theorem baseSum_eq_tableBase (g : Regs) (b : EABase) : baseSum g b = BitVec.ofNat 16 (tableBase g b.num.toNat) := by
  cases b <;> exact BitVec.eq_of_toNat_eq (by simp [baseSum, tableBase, EABase.num])

theorem segmentOr_baseSeg (s : State) (b : EABase) :
    s.segmentOr (baseSeg b) = s.sreg (s.segOverride.getD (tableSeg b.num.toNat)) := by
  rw [baseSeg_eq_tableSeg]; rfl

theorem ofNat_add_sext8 (n : Nat) (d : Byte) : BitVec.ofNat 16 n + sext8 d = BitVec.ofInt 16 (n + d.toInt) := by
  rw [BitVec.ofInt_add, ← BitVec.ofInt_natCast]
  rfl

/-- Settles O21: the base sum and the default segment are those of the table, form by form. -/
theorem effectiveAddresses : Obligations.EffectiveAddresses := by
  refine ⟨fun s g b d w hf => ?_, fun s m n => ?_⟩
  · simp only [decodeModRM_opened hf, opened, ModRM.cache, formSeg, formOffset, segmentOr_baseSeg, baseSum_eq_tableBase,
      ofNat_add_sext8]
    refine ⟨rfl, rfl, ?_, rfl⟩
    rw [BitVec.ofNat_add, BitVec.ofNat_toNat, BitVec.setWidth_eq]
    rfl
  · refine decodeModRM_valid ?_
    unfold decodeModRM
    split
    · assumption
    · exact ModRM.cache_valid m s

/-! ### Transfers to a segment that is not executable -/

theorem checkCS_of_not_executable {s : State} {sel : Word} (h : s.bus.isExecutable sel = false) :
    checkCS sel s = .raise (.nonExecutableSegment sel) s := by
  simp [checkCS, h]

theorem checkCS_of_executable {s : State} {sel : Word} (h : s.bus.isExecutable sel = true) :
    checkCS sel s = .ok () s := by
  simp [checkCS, h, Res.done]

theorem jumpFar_of_executable {s : State} {sel : Word} (off : Word) (h : s.bus.isExecutable sel = true) :
    jumpFar sel off s = .ok () ((s.setSReg .cs sel).setIP off) := by
  simp [jumpFar, writeCS_of_executable h, Res.done]

theorem jumpFarChecked_of_not_executable {s : State} {sel : Word} (off : Word) (h : s.bus.isExecutable sel = false) :
    jumpFarChecked sel off s = .raise (.nonExecutableSegment sel) s := by
  simp only [jumpFarChecked, checkCS_of_not_executable h, Res.bind_raise]

theorem callFar_of_not_executable {s : State} {sel : Word} (off : Word) (h : s.bus.isExecutable sel = false) :
    callFar sel off s = .raise (.nonExecutableSegment sel) s := by
  simp only [callFar, checkCS_of_not_executable h, Res.bind_raise]

theorem stackWord_of_canPop {s : State} {k : Word} (h : canPop s k) : stackWord k s = .ok (stacked s k) s :=
  memRead16_of_readable h

theorem returnFar_of_not_executable {s : State} (n : Word) (h0 : canPop s 0) (h2 : canPop s 2)
    (h : s.bus.isExecutable (stacked s 2) = false) :
    returnFar n s = .raise (.nonExecutableSegment (stacked s 2)) s := by
  simp only [returnFar, stackWord_of_canPop h0, stackWord_of_canPop h2, Res.bind_ok, checkCS_of_not_executable h,
    Res.bind_raise]

theorem returnFromInterrupt_of_not_executable {s : State} (h0 : canPop s 0) (h2 : canPop s 2) (h4 : canPop s 4)
    (h : s.bus.isExecutable (stacked s 2) = false) :
    returnFromInterrupt s = .raise (.nonExecutableSegment (stacked s 2)) s := by
  simp only [returnFromInterrupt, stackWord_of_canPop h0, stackWord_of_canPop h2, stackWord_of_canPop h4, Res.bind_ok,
    checkCS_of_not_executable h, Res.bind_raise]

/-- Settles O23: each transfer checks the selector before it commits anything. -/
theorem codeSegmentIsChecked : Obligations.CodeSegmentIsChecked := by
  refine ⟨fun s off sel h => ⟨?_, ?_⟩, fun m s hf hp h => ⟨?_, ?_⟩, fun s h0 h2 h => ⟨?_, fun n => ?_, fun h4 => ?_⟩,
    fun s rm hf hr h => ?_⟩
  · exact congrArg Res.outcome (jumpFarChecked_of_not_executable off h)
  · exact congrArg Res.outcome (callFar_of_not_executable off h)
  · change Res.outcome ((farPointer (modrmMem 5 m) s).bind fun p s => jumpFarChecked p.2 p.1 s) = _
    rw [farPointer_of_readable 5 hf hp]
    exact congrArg Res.outcome (jumpFarChecked_of_not_executable (s := opened (modrmMem 5 m) s) _ h)
  · change Res.outcome ((farPointer (modrmMem 3 m) s).bind fun p s => callFar p.2 p.1 s) = _
    rw [farPointer_of_readable 3 hf hp]
    exact congrArg Res.outcome (callFar_of_not_executable (s := opened (modrmMem 3 m) s) _ h)
  · exact congrArg Res.outcome (returnFar_of_not_executable 0 h0 h2 h)
  · exact congrArg Res.outcome (returnFar_of_not_executable n h0 h2 h)
  · exact congrArg Res.outcome (returnFromInterrupt_of_not_executable h0 h2 h4 h)
  · change Res.outcome ((readEA16 (modrm16 1 rm) s).bind fun v s => writeSReg .cs v s) = _
    rw [readEA16_of_canRead 1 hf hr]
    exact congrArg Res.outcome (writeCS_of_not_executable (s := opened (modrm16 1 rm) s) h)

end Sys2Proof.Machine
end

section
/-! The arithmetic and logic forms complete with their operation's result and flags (40_alu_arith section 3,
41_alu_logic). -/

namespace Sys2Proof.Machine
open Claims

/-! ### The instruction of an operation -/

theorem exec_aluRmR8Of (op : AluOp) (rm : Rm Reg8) (r : Reg8) (s : State) :
    exec (aluRmR8Of op rm r) s = (aluRmR8 op (modrm8 r.num rm) s).outcome := by cases op <;> rfl

theorem exec_aluRmR16Of (op : AluOp) (rm : Rm Reg16) (r : Reg16) (s : State) :
    exec (aluRmR16Of op rm r) s = (aluRmR16 op (modrm16 r.num rm) s).outcome := by cases op <;> rfl

theorem exec_aluRRm8Of (op : AluOp) (r : Reg8) (rm : Rm Reg8) (s : State) :
    exec (aluRRm8Of op r rm) s = (aluRRm8 op (modrm8 r.num rm) s).outcome := by cases op <;> rfl

theorem exec_aluRRm16Of (op : AluOp) (r : Reg16) (rm : Rm Reg16) (s : State) :
    exec (aluRRm16Of op r rm) s = (aluRRm16 op (modrm16 r.num rm) s).outcome := by cases op <;> rfl

theorem exec_aluAlImmOf (op : AluOp) (imm : Byte) (s : State) :
    exec (aluAlImmOf op imm) s = (aluAlImm op imm s).outcome := by cases op <;> rfl

theorem exec_aluAxImmOf (op : AluOp) (imm : Word) (s : State) :
    exec (aluAxImmOf op imm) s = (aluAxImm op imm s).outcome := by cases op <;> rfl

theorem exec_aluRmImm8Of (op : AluOp) (rm : Rm Reg8) (imm : Byte) (s : State) :
    exec (aluRmImm8Of op rm imm) s = (aluRmImm8 op (modrm8 (aluCode op) rm) imm s).outcome := by cases op <;> rfl

theorem exec_aluRmImm8Op82Of (op : AluOp) (rm : Rm Reg8) (imm : Byte) (s : State) :
    exec (aluRmImm8Op82Of op rm imm) s = (aluRmImm8 op (modrm8 (aluCode op) rm) imm s).outcome := by cases op <;> rfl

theorem exec_aluRmImm16Of (op : AluOp) (rm : Rm Reg16) (imm : Word) (s : State) :
    exec (aluRmImm16Of op rm imm) s = (aluRmImm16 op (modrm16 (aluCode op) rm) imm s).outcome := by cases op <;> rfl

theorem exec_aluRmImm8sOf (op : AluOp) (rm : Rm Reg16) (imm : Byte) (s : State) :
    exec (aluRmImm8sOf op rm imm) s = (aluRmImm16 op (modrm16 (aluCode op) rm) (sext8 imm) s).outcome := by
  cases op <;> rfl

/-! ### Result and flags -/

theorem AluOp.eq_cmp_of_not_writes {op : AluOp} (h : ¬op.writes = true) : op = .cmp := by
  cases op with
  | cmp => rfl
  | add | or | adc | sbb | and | sub | xor => exact absurd rfl h

theorem AluOp.ne_cmp_of_writes {op : AluOp} (h : op.writes = true) : op ≠ .cmp := by
  rintro rfl
  cases h

theorem setFlags_assign8 (s t : State) (rm : Rm Reg8) (v : Byte) (fe : FlagEngine) :
    (assign8 s rm v t).setFlags fe = assign8 s rm v (t.setFlags fe) := by
  cases rm <;> rfl

theorem setFlags_assign16 (s t : State) (rm : Rm Reg16) (v : Word) (fe : FlagEngine) :
    (assign16 s rm v t).setFlags fe = assign16 s rm v (t.setFlags fe) := by
  cases rm <;> rfl

theorem aluCommit8_done {op : AluOp} {a b : Byte} {dest : Byte → State → Res Unit} {s t : State} {rm : Rm Reg8}
    (hd : op.writes = true → ∀ v, dest v t = .ok () (assign8 s rm v t)) :
    aluCommit8 op a b dest t = .ok () (aluDone8 op (op.apply a b t.fe) s rm t) := by
  unfold aluCommit8 aluDone8
  by_cases hw : op.writes = true
  · simp only [hw, if_true, hd hw, if_neg (AluOp.ne_cmp_of_writes hw), Res.bind_ok, Res.done, setFlags_assign8]
  · simp only [hw, if_pos (AluOp.eq_cmp_of_not_writes hw), Res.done]
    simp

theorem aluCommit16_done {op : AluOp} {a b : Word} {dest : Word → State → Res Unit} {s t : State} {rm : Rm Reg16}
    (hd : op.writes = true → ∀ v, dest v t = .ok () (assign16 s rm v t)) :
    aluCommit16 op a b dest t = .ok () (aluDone16 op (op.apply a b t.fe) s rm t) := by
  unfold aluCommit16 aluDone16
  by_cases hw : op.writes = true
  · simp only [hw, if_true, hd hw, if_neg (AluOp.ne_cmp_of_writes hw), Res.bind_ok, Res.done, setFlags_assign16]
  · simp only [hw, if_pos (AluOp.eq_cmp_of_not_writes hw), Res.done]
    simp

/-! ### Register forms -/

section
variable {s : State} (hf : fresh s)
include hf

theorem aluRmR8_eq {rm : Rm Reg8} (hr : canRead8 s rm) (op : AluOp) (r : Reg8) :
    aluRmR8 op (modrm8 r.num rm) s =
      aluCommit8 op (operand8 s rm) (s.reg8 r) (writeEA8 (modrm8 r.num rm)) (opened (modrm8 r.num rm) s) := by
  simp only [aluRmR8, readEA8_of_canRead _ hf hr, readRegField8_opened, Res.bind_ok]

theorem aluRmR16_eq {rm : Rm Reg16} (hr : canRead16 s rm) (op : AluOp) (r : Reg16) :
    aluRmR16 op (modrm16 r.num rm) s =
      aluCommit16 op (operand16 s rm) (s.reg16 r) (writeEA16 (modrm16 r.num rm)) (opened (modrm16 r.num rm) s) := by
  simp only [aluRmR16, readEA16_of_canRead _ hf hr, readRegField16_opened, Res.bind_ok]

theorem aluRRm8_eq {rm : Rm Reg8} (hr : canRead8 s rm) (op : AluOp) (r : Reg8) :
    aluRRm8 op (modrm8 r.num rm) s =
      aluCommit8 op (s.reg8 r) (operand8 s rm) (writeRegField8 (modrm8 r.num rm)) (opened (modrm8 r.num rm) s) := by
  simp only [aluRRm8, readEA8_of_canRead _ hf hr, readRegField8_opened, Res.bind_ok]

theorem aluRRm16_eq {rm : Rm Reg16} (hr : canRead16 s rm) (op : AluOp) (r : Reg16) :
    aluRRm16 op (modrm16 r.num rm) s =
      aluCommit16 op (s.reg16 r) (operand16 s rm) (writeRegField16 (modrm16 r.num rm))
        (opened (modrm16 r.num rm) s) := by
  simp only [aluRRm16, readEA16_of_canRead _ hf hr, readRegField16_opened, Res.bind_ok]

theorem aluRmImm8_eq {rm : Rm Reg8} (hr : canRead8 s rm) (op : AluOp) (g : BitVec 3) (imm : Byte) :
    aluRmImm8 op (modrm8 g rm) imm s =
      aluCommit8 op (operand8 s rm) imm (writeEA8 (modrm8 g rm)) (opened (modrm8 g rm) s) := by
  simp only [aluRmImm8, readEA8_of_canRead _ hf hr, Res.bind_ok]

theorem aluRmImm16_eq {rm : Rm Reg16} (hr : canRead16 s rm) (op : AluOp) (g : BitVec 3) (imm : Word) :
    aluRmImm16 op (modrm16 g rm) imm s =
      aluCommit16 op (operand16 s rm) imm (writeEA16 (modrm16 g rm)) (opened (modrm16 g rm) s) := by
  simp only [aluRmImm16, readEA16_of_canRead _ hf hr, Res.bind_ok]

end

/-- The write-back of an operation to r/m, where the form writes and the bus accepts it. -/
theorem aluCommit8_writeEA {op : AluOp} {a b : Byte} {s : State} {rm : Rm Reg8} (g : BitVec 3)
    (hw : op.writes = true → canWrite8 s rm) :
    aluCommit8 op a b (writeEA8 (modrm8 g rm)) (opened (modrm8 g rm) s) =
      .ok () (aluDone8 op (op.apply a b s.fe) s rm (opened (modrm8 g rm) s)) :=
  aluCommit8_done fun h => writeEA8_of_canWrite (decoded_opened _ s) (hw h) _

theorem aluCommit16_writeEA {op : AluOp} {a b : Word} {s : State} {rm : Rm Reg16} (g : BitVec 3)
    (hw : op.writes = true → canWrite16 s rm) :
    aluCommit16 op a b (writeEA16 (modrm16 g rm)) (opened (modrm16 g rm) s) =
      .ok () (aluDone16 op (op.apply a b s.fe) s rm (opened (modrm16 g rm) s)) :=
  aluCommit16_done fun h => writeEA16_of_canWrite (decoded_opened _ s) (hw h) _

theorem aluCommit8_writeEA_refused {op : AluOp} {a b : Byte} {s : State} {e : MemEA} {f : CpuFault} (g : BitVec 3)
    (hw : op.writes = true) (h : s.bus.refusal true (eaSeg s e) (eaOff s e) = some f) :
    aluCommit8 op a b (writeEA8 (modrm8 g (.mem e))) (opened (modrm8 g (.mem e)) s) =
      .raise f (opened (modrm8 g (.mem e)) s) :=
  aluCommit8_refused hw (writeEA8_of_refused (decoded_opened _ s) h _ _)

theorem aluCommit16_writeEA_refused {op : AluOp} {a b : Word} {s : State} {e : MemEA} {f : CpuFault} (g : BitVec 3)
    (hw : op.writes = true) (h : s.bus.refusal true (eaSeg s e) (eaOff s e) = some f) :
    aluCommit16 op a b (writeEA16 (modrm16 g (.mem e))) (opened (modrm16 g (.mem e)) s) =
      .raise f (opened (modrm16 g (.mem e)) s) :=
  aluCommit16_refused hw (writeEA16_of_refused (decoded_opened _ s) h _ _)

/-- Settles O33. -/
theorem aluRegisterForms : Obligations.AluRegisterForms := by
  refine ⟨fun _ _ _ _ => rfl, fun op rm r s hf hr hw => ?_, fun op rm r s hf hr hw => ?_, fun op rm r s hf hr hw => ?_,
    fun op rm r s hf hr hw => ?_, fun op r rm s hf hr => ?_, fun op r rm s hf hr => ?_⟩
  · rw [exec_aluRmR8Of, aluRmR8_eq hf hr, aluCommit8_writeEA _ hw]; rfl
  · rw [exec_aluRmR16Of, aluRmR16_eq hf hr, aluCommit16_writeEA _ hw]; rfl
  · rintro e f rfl h
    rw [exec_aluRmR8Of, aluRmR8_eq hf hr, aluCommit8_writeEA_refused _ hw h]; rfl
  · rintro e f rfl h
    rw [exec_aluRmR16Of, aluRmR16_eq hf hr, aluCommit16_writeEA_refused _ hw h]; rfl
  · rw [exec_aluRRm8Of, aluRRm8_eq hf hr, aluCommit8_done (s := s) (rm := .reg r) fun _ v =>
      writeRegField8_decoded (decoded_opened _ s) rfl v]; rfl
  · rw [exec_aluRRm16Of, aluRRm16_eq hf hr, aluCommit16_done (s := s) (rm := .reg r) fun _ v =>
      writeRegField16_decoded (decoded_opened _ s) rfl v]; rfl

/-- Settles O34. -/
theorem aluImmediateForms : Obligations.AluImmediateForms := by
  refine ⟨fun op imm s => ?_, fun op imm s => ?_, fun op rm imm s hf hr hw => ⟨?_, ?_⟩, fun op rm s hf hr hw imm =>
    ⟨?_, ?_⟩, fun op rm s hf hr hw => ⟨fun imm => ?_, fun imm => ?_⟩,
    fun op rm s hf hr hw => ⟨fun imm => ?_, fun imm => ?_⟩⟩
  · rw [exec_aluAlImmOf]
    exact congrArg Res.outcome (aluCommit8_done (rm := .reg .al) fun _ _ => rfl)
  · rw [exec_aluAxImmOf]
    exact congrArg Res.outcome (aluCommit16_done (rm := .reg .ax) fun _ _ => rfl)
  · rw [exec_aluRmImm8Of, aluRmImm8_eq hf hr, aluCommit8_writeEA _ hw]; rfl
  · rw [exec_aluRmImm8Op82Of, aluRmImm8_eq hf hr, aluCommit8_writeEA _ hw]; rfl
  · rintro e f rfl h
    rw [exec_aluRmImm8Of, aluRmImm8_eq hf hr, aluCommit8_writeEA_refused _ hw h]; rfl
  · rintro e f rfl h
    rw [exec_aluRmImm8Op82Of, aluRmImm8_eq hf hr, aluCommit8_writeEA_refused _ hw h]; rfl
  · rintro e f rfl h
    rw [exec_aluRmImm16Of, aluRmImm16_eq hf hr, aluCommit16_writeEA_refused _ hw h]; rfl
  · rintro e f rfl h
    rw [exec_aluRmImm8sOf, aluRmImm16_eq hf hr, aluCommit16_writeEA_refused _ hw h]; rfl
  · rw [exec_aluRmImm16Of, aluRmImm16_eq hf hr, aluCommit16_writeEA _ hw]; rfl
  · rw [exec_aluRmImm8sOf, aluRmImm16_eq hf hr, aluCommit16_writeEA _ hw]; rfl

/-! ### One-operand forms -/

theorem unaryRm8_done {f : Byte → FlagEngine → Byte × FlagEngine} {s : State} {rm : Rm Reg8} (g : BitVec 3)
    (hf : fresh s)
    (hr : canRead8 s rm) (hw : canWrite8 s rm) :
    unaryRm8 f (modrm8 g rm) s =
      .ok () (assign8 s rm (f (operand8 s rm) s.fe).1
        ((opened (modrm8 g rm) s).setFlags (f (operand8 s rm) s.fe).2)) := by
  simp only [unaryRm8, readEA8_of_canRead g hf hr, Res.bind_ok, writeEA8_of_canWrite (decoded_opened _ s) hw,
    setFlags_assign8, Res.done]
  rfl

theorem unaryRm16_done {f : Word → FlagEngine → Word × FlagEngine} {s : State} {rm : Rm Reg16} (g : BitVec 3)
    (hf : fresh s) (hr : canRead16 s rm) (hw : canWrite16 s rm) :
    unaryRm16 f (modrm16 g rm) s =
      .ok () (assign16 s rm (f (operand16 s rm) s.fe).1
        ((opened (modrm16 g rm) s).setFlags (f (operand16 s rm) s.fe).2)) := by
  simp only [unaryRm16, readEA16_of_canRead g hf hr, Res.bind_ok, writeEA16_of_canWrite (decoded_opened _ s) hw,
    setFlags_assign16, Res.done]
  rfl

theorem unaryRm8_refused {f : Byte → FlagEngine → Byte × FlagEngine} {s : State} {e : MemEA} {c : CpuFault}
    (g : BitVec 3)
    (hf : fresh s) (hr : canRead8 s (.mem e)) (h : s.bus.refusal true (eaSeg s e) (eaOff s e) = some c) :
    unaryRm8 f (modrm8 g (.mem e)) s = .raise c (opened (modrm8 g (.mem e)) s) := by
  simp only [unaryRm8, readEA8_of_canRead g hf hr, Res.bind_ok, writeEA8_of_refused (decoded_opened _ s) h,
    Res.bind_raise]

theorem unaryRm16_refused {f : Word → FlagEngine → Word × FlagEngine} {s : State} {e : MemEA} {c : CpuFault}
    (g : BitVec 3) (hf : fresh s) (hr : canRead16 s (.mem e))
    (h : s.bus.refusal true (eaSeg s e) (eaOff s e) = some c) :
    unaryRm16 f (modrm16 g (.mem e)) s = .raise c (opened (modrm16 g (.mem e)) s) := by
  simp only [unaryRm16, readEA16_of_canRead g hf hr, Res.bind_ok, writeEA16_of_refused (decoded_opened _ s) h,
    Res.bind_raise]

theorem unary8_of_exec {mk : Rm Reg8 → Instr} {g : BitVec 3} {f : Byte → FlagEngine → Byte × FlagEngine}
    (he : ∀ rm s, exec (mk rm) s = (unaryRm8 f (modrm8 g rm) s).outcome) : Unary8 mk g f := by
  refine fun rm s hf hr => ⟨fun hw => ?_, ?_⟩
  · rw [he, unaryRm8_done g hf hr hw]; rfl
  · rintro e c rfl h
    rw [he, unaryRm8_refused g hf hr h]; rfl

theorem unary16_of_exec {mk : Rm Reg16 → Instr} {g : BitVec 3} {f : Word → FlagEngine → Word × FlagEngine}
    (he : ∀ rm s, exec (mk rm) s = (unaryRm16 f (modrm16 g rm) s).outcome) : Unary16 mk g f := by
  refine fun rm s hf hr => ⟨fun hw => ?_, ?_⟩
  · rw [he, unaryRm16_done g hf hr hw]; rfl
  · rintro e c rfl h
    rw [he, unaryRm16_refused g hf hr h]; rfl

/-- Settles O35: each form is `unaryRm8`, `unaryRm16` or `unaryR16` at its operation. -/
theorem unaryForms : Obligations.UnaryForms :=
  ⟨fun _ _ => rfl, fun _ _ => rfl, unary8_of_exec fun _ _ => rfl, unary8_of_exec fun _ _ => rfl,
    unary8_of_exec fun _ _ => rfl, unary8_of_exec fun _ _ => rfl, unary16_of_exec fun _ _ => rfl,
    unary16_of_exec fun _ _ => rfl, unary16_of_exec fun _ _ => rfl, unary16_of_exec fun _ _ => rfl⟩

/-! ### TEST -/

/-- Settles O36. -/
theorem testForms : Obligations.TestForms := by
  refine ⟨fun rm r s hf hr => ?_, fun rm r s hf hr => ?_, fun _ _ => rfl, fun _ _ => rfl, fun rm imm s hf hr => ?_,
    fun rm imm s hf hr => ?_⟩
  · change Res.outcome (testRmR8 (modrm8 r.num rm) s) = _
    simp only [testRmR8, readEA8_of_canRead _ hf hr, readRegField8_opened, Res.bind_ok]; rfl
  · change Res.outcome (testRmR16 (modrm16 r.num rm) s) = _
    simp only [testRmR16, readEA16_of_canRead _ hf hr, readRegField16_opened, Res.bind_ok]; rfl
  · change Res.outcome (testRmImm8 (modrm8 0 rm) imm s) = _
    simp only [testRmImm8, readEA8_of_canRead _ hf hr, Res.bind_ok]; rfl
  · change Res.outcome (testRmImm16 (modrm16 0 rm) imm s) = _
    simp only [testRmImm16, readEA16_of_canRead _ hf hr, Res.bind_ok]; rfl

end Sys2Proof.Machine
end

section
/-! The forms of multiplication, division, shift, rotate and decimal adjust (42, 43, 44). -/

namespace Sys2Proof.Machine
open Claims

/-! ### Multiplication -/

section
variable {s : State} (hf : fresh s)
include hf

theorem mulAcc8_eq {rm : Rm Reg8} (hr : canRead8 s rm) {f : Byte → Byte → FlagEngine → Byte × Byte × FlagEngine}
    (g : BitVec 3) {lo hi : Byte} {fe : FlagEngine} (he : f (s.reg8 .al) (operand8 s rm) s.fe = (lo, hi, fe)) :
    mulAcc8 f (modrm8 g rm) s = .ok () (((opened (modrm8 g rm) s).setFlags fe).setReg16 .ax (hi ++ lo)) := by
  have he' : f ((opened (modrm8 g rm) s).reg8 .al) (operand8 s rm) (opened (modrm8 g rm) s).fe = (lo, hi, fe) := he
  simp only [mulAcc8, readEA8_of_canRead g hf hr, Res.bind_ok, he', Res.done, word16]

theorem mulAcc16_eq {rm : Rm Reg16} (hr : canRead16 s rm) {f : Word → Word → FlagEngine → Word × Word × FlagEngine}
    (g : BitVec 3) {lo hi : Word} {fe : FlagEngine} (he : f s.regs.ax (operand16 s rm) s.fe = (lo, hi, fe)) :
    mulAcc16 f (modrm16 g rm) s =
      .ok () ((((opened (modrm16 g rm) s).setFlags fe).setReg16 .ax lo).setReg16 .dx hi) := by
  have he' : f (opened (modrm16 g rm) s).regs.ax (operand16 s rm) (opened (modrm16 g rm) s).fe = (lo, hi, fe) := he
  simp only [mulAcc16, readEA16_of_canRead g hf hr, Res.bind_ok, he', Res.done]

theorem imulImm_eq {rm : Rm Reg16} (hr : canRead16 s rm) (r : Reg16) (imm : Word) :
    imulImm (modrm16 r.num rm) imm s =
      .ok () (((opened (modrm16 r.num rm) s).setFlags (imul (operand16 s rm) imm s.fe).2.2).setReg16 r
        (imul (operand16 s rm) imm s.fe).1) := by
  simp only [imulImm, readEA16_of_canRead _ hf hr, Res.bind_ok]
  exact writeRegField16_decoded ((decoded_opened (modrm16 r.num rm) s).setFlags _) rfl _

end

/-- Settles O37. -/
theorem multiplyForms : Obligations.MultiplyForms := by
  refine ⟨fun rm s hf hr => ⟨fun lo hi fe he => ?_, fun lo hi fe he => ?_⟩, fun rm s hf hr => ⟨fun lo hi fe he => ?_,
    fun lo hi fe he => ?_⟩, fun r rm s hf hr => ⟨fun imm => ?_, fun imm => ?_⟩⟩
  · exact congrArg Res.outcome (mulAcc8_eq hf hr 4 he)
  · exact congrArg Res.outcome (mulAcc8_eq hf hr 5 he)
  · exact congrArg Res.outcome (mulAcc16_eq hf hr 4 he)
  · exact congrArg Res.outcome (mulAcc16_eq hf hr 5 he)
  · exact congrArg Res.outcome (imulImm_eq hf hr r imm)
  · exact congrArg Res.outcome (imulImm_eq hf hr r (sext8 imm))

/-! ### Division -/

/-- DX:AX read unsigned. -/
theorem toNat_append_words (h l : Word) : (h ++ l).toNat = h.toNat * 2 ^ 16 + l.toNat := by
  rw [BitVec.toNat_append, ← Nat.shiftLeft_add_eq_or_of_lt l.isLt, Nat.shiftLeft_eq]

/-- DX:AX read signed. -/
theorem toInt_append_words (h l : Word) : (h ++ l).toInt = h.toInt * 2 ^ 16 + l.toNat := by
  have := h.isLt
  have := l.isLt
  rw [BitVec.toInt_eq_toNat_cond, BitVec.toInt_eq_toNat_cond, toNat_append_words]
  split <;> split <;> push_cast <;> omega

theorem divLaw8_of_quotient {i : Instr} {s : State} {rm : Rm Reg8} {g : BitVec 3}
    {f : Word → Byte → Option (Byte × Byte)}
    (he : exec i s = (divAcc8 f (modrm8 g rm) s).outcome) (hf : fresh s) (hr : canRead8 s rm) :
    DivLaw8 i (opened (modrm8 g rm) s) s s.regs.ax.toNat (operand8 s rm).toNat (f s.regs.ax (operand8 s rm)) := by
  have hx : divAcc8 f (modrm8 g rm) s = match f s.regs.ax (operand8 s rm) with
      | none => .raise .divideError (opened (modrm8 g rm) s)
      | some (q, r) => .done (((opened (modrm8 g rm) s).setFlags
          (divFlags s.regs.ax.toNat (operand8 s rm) q s.fe)).setReg16 .ax (word16 r q)) := by
    change Res.bind _ _ = _
    rw [readEA8_of_canRead g hf hr, Res.bind_ok]
    rfl
  refine ⟨fun q r hq => ⟨divFlags s.regs.ax.toNat (operand8 s rm) q s.fe, ?_, ⟨rfl, rfl, rfl⟩, rfl⟩, fun hq => ?_⟩
  · rw [he, hx, hq]; rfl
  · rw [he, hx, hq]; rfl

theorem divLaw16_of_quotient {i : Instr} {s : State} {rm : Rm Reg16} {g : BitVec 3}
    {f : BitVec 32 → Word → Option (Word × Word)}
    (he : exec i s = (divAcc16 f (modrm16 g rm) s).outcome) (hf : fresh s) (hr : canRead16 s rm) :
    DivLaw16 i (opened (modrm16 g rm) s) s (s.regs.dx.toNat * 2 ^ 16 + s.regs.ax.toNat) (operand16 s rm).toNat
      (f (s.regs.dx ++ s.regs.ax) (operand16 s rm)) := by
  have hx : divAcc16 f (modrm16 g rm) s = match f (s.regs.dx ++ s.regs.ax) (operand16 s rm) with
      | none => .raise .divideError (opened (modrm16 g rm) s)
      | some (q, r) => .done ((((opened (modrm16 g rm) s).setFlags
          (divFlags (s.regs.dx ++ s.regs.ax).toNat (operand16 s rm) q s.fe)).setReg16 .ax q).setReg16 .dx r) := by
    change Res.bind _ _ = _
    rw [readEA16_of_canRead g hf hr, Res.bind_ok]
    rfl
  rw [← toNat_append_words]
  refine ⟨fun q r hq => ⟨divFlags (s.regs.dx ++ s.regs.ax).toNat (operand16 s rm) q s.fe, ?_, ⟨rfl, rfl, rfl⟩, rfl⟩,
    fun hq => ?_⟩
  · rw [he, hx, hq]; rfl
  · rw [he, hx, hq]; rfl

/-- Settles O38. -/
theorem divideForms : Obligations.DivideForms := by
  refine ⟨fun rm s hf hr => ⟨?_, ?_⟩, fun rm s hf hr => ⟨?_, ?_⟩⟩
  · exact divLaw8_of_quotient (f := unsignedQuotient8) rfl hf hr
  · exact divLaw8_of_quotient (f := signedQuotient8) rfl hf hr
  · rw [← toNat_append_words]
    have h := divLaw16_of_quotient (i := .divRm16 rm) (f := unsignedQuotient16) rfl hf hr
    rwa [← toNat_append_words] at h
  · rw [← toInt_append_words]
    exact divLaw16_of_quotient (i := .idivRm16 rm) (f := signedQuotient16) rfl hf hr

/-! ### Shifts and rotates -/

theorem shiftLaw8_of_exec {i : Instr} {op : ShiftOp} {rm : Rm Reg8} {s : State} {c : Byte}
    (he : exec i s = (shiftRm8 op (modrm8 (shiftCode op) rm) c s).outcome) (hf : fresh s) (hr : canRead8 s rm) :
    shiftLaw8 i op rm s c := by
  refine ⟨fun hw => ?_, ?_⟩
  · rw [he]
    simp only [shiftRm8, readEA8_of_canRead _ hf hr, Res.bind_ok, writeEA8_of_canWrite (decoded_opened _ s) hw,
      Res.done, setFlags_assign8]
    rfl
  · rintro e f rfl h
    rw [he]
    simp only [shiftRm8, readEA8_of_canRead _ hf hr, Res.bind_ok, writeEA8_of_refused (decoded_opened _ s) h,
      Res.bind_raise]
    rfl

theorem shiftLaw16_of_exec {i : Instr} {op : ShiftOp} {rm : Rm Reg16} {s : State} {c : Byte}
    (he : exec i s = (shiftRm16 op (modrm16 (shiftCode op) rm) c s).outcome) (hf : fresh s) (hr : canRead16 s rm) :
    shiftLaw16 i op rm s c := by
  refine ⟨fun hw => ?_, ?_⟩
  · rw [he]
    simp only [shiftRm16, readEA16_of_canRead _ hf hr, Res.bind_ok, writeEA16_of_canWrite (decoded_opened _ s) hw,
      Res.done, setFlags_assign16]
    rfl
  · rintro e f rfl h
    rw [he]
    simp only [shiftRm16, readEA16_of_canRead _ hf hr, Res.bind_ok, writeEA16_of_refused (decoded_opened _ s) h,
      Res.bind_raise]
    rfl

/-- Settles O39. -/
theorem shiftForms : Obligations.ShiftForms := by
  refine ⟨fun op rm s hf hr => ⟨?_, ?_, fun imm => ?_⟩, fun op rm s hf hr => ⟨?_, ?_, fun imm => ?_⟩⟩
  · exact shiftLaw8_of_exec (by cases op <;> rfl) hf hr
  · exact shiftLaw8_of_exec (by cases op <;> rfl) hf hr
  · exact shiftLaw8_of_exec (by cases op <;> rfl) hf hr
  · exact shiftLaw16_of_exec (by cases op <;> rfl) hf hr
  · exact shiftLaw16_of_exec (by cases op <;> rfl) hf hr
  · exact shiftLaw16_of_exec (by cases op <;> rfl) hf hr

/-! ### Decimal adjust -/

/-- AX replaced, with any write of the status flags, is what an adjustment may do. -/
theorem adjusted_setReg16_ax {s : State} {fe : FlagEngine} (hc : sameControl s.fe fe) (h l : Byte) (al ah : Nat)
    (hl : l = BitVec.ofNat 8 al) (hh : h = BitVec.ofNat 8 ah) :
    adjusted s ((s.setFlags fe).setReg16 .ax (word16 h l)) al ah := by
  refine ⟨(lo8_word16 h l).trans hl, (hi8_word16 h l).trans hh, rfl, fun r hr => ?_, rfl, nofun, hc.1, hc.2.1, hc.2.2,
    ?_, rfl, fun _ _ _ => rfl⟩
  · exact State.reg16_setReg16_of_ne _ _ (by simpa using hr)
  · simp [sameMachinery]

theorem setReg8_al_eq (s : State) (v : Byte) : s.setReg8 .al v = s.setReg16 .ax (word16 (s.reg8 .ah) v) := rfl

theorem lowDigitOff_eq (al : Byte) (af : Bool) : lowDigitOff al af = (decide (9 < al.toNat % 16) || af) := by
  rw [lowDigitOff, BitVec.toNat_and]
  exact congrArg (fun n => decide (9 < n) || af) (Nat.and_two_pow_sub_one_eq_mod al.toNat 4)

theorem and_0F_eq (x : Byte) : x &&& 0x0F = BitVec.ofNat 8 (x.toNat % 16) := by
  have h := x.isLt
  refine BitVec.eq_of_toNat_eq ?_
  rw [BitVec.toNat_and, BitVec.toNat_ofNat, Nat.mod_eq_of_lt (by omega)]
  exact Nat.and_two_pow_sub_one_eq_mod x.toNat 4

theorem aaa_values (al ah : Byte) (fe : FlagEngine) :
    let low := decide (9 < al.toNat % 16) || fe.af
    let x := aaa al ah fe
    x.1 = BitVec.ofNat 8 (if low then (al.toNat + 6) % 16 else al.toNat % 16) ∧
      x.2.1 = BitVec.ofNat 8 (if low then ah.toNat + 1 else ah.toNat) ∧ x.2.2.cf = low ∧ x.2.2.af = low := by
  have h6 : (al + 6) &&& 0x0F = BitVec.ofNat 8 ((al.toNat + 6) % 16) := by
    rw [and_0F_eq, BitVec.toNat_add, Nat.mod_mod_of_dvd _ (by decide)]; rfl
  have h1 : ah + 1 = BitVec.ofNat 8 (ah.toNat + 1) := by
    rw [BitVec.ofNat_add, BitVec.ofNat_toNat, BitVec.setWidth_eq]; rfl
  simp only [aaa, lowDigitOff_eq]
  cases decide (9 < al.toNat % 16) || fe.af with
  | true => exact ⟨h6, h1, rfl, rfl⟩
  | false => exact ⟨and_0F_eq al, (BitVec.ofNat_toNat 8 ah).symm, rfl, rfl⟩

theorem aas_values (al ah : Byte) (fe : FlagEngine) :
    let low := decide (9 < al.toNat % 16) || fe.af
    let x := aas al ah fe
    x.1 = BitVec.ofNat 8 (if low then (al.toNat + 250) % 16 else al.toNat % 16) ∧
      x.2.1 = BitVec.ofNat 8 (if low then ah.toNat + 255 else ah.toNat) ∧ x.2.2.cf = low ∧ x.2.2.af = low := by
  have h6 : (al - 6) &&& 0x0F = BitVec.ofNat 8 ((al.toNat + 250) % 16) := by
    rw [and_0F_eq, BitVec.toNat_sub, Nat.mod_mod_of_dvd _ (by decide), Nat.add_comm]; rfl
  have h1 : ah - 1 = BitVec.ofNat 8 (ah.toNat + 255) := by
    rw [BitVec.ofNat_add, BitVec.ofNat_toNat, BitVec.setWidth_eq]
    exact BitVec.sub_eq_add_neg ah 1
  simp only [aas, lowDigitOff_eq]
  cases decide (9 < al.toNat % 16) || fe.af with
  | true => exact ⟨h6, h1, rfl, rfl⟩
  | false => exact ⟨and_0F_eq al, (BitVec.ofNat_toNat 8 ah).symm, rfl, rfl⟩

theorem daa_value (al : Byte) (fe : FlagEngine) :
    (daa al fe).1 = BitVec.ofNat 8
      (al.toNat + (if decide (9 < al.toNat % 16) || fe.af then 6 else 0) +
        (if decide (0x99 < al.toNat) || fe.cf then 0x60 else 0)) := by
  simp only [daa, lowDigitOff_eq, highDigitOff, BitVec.ofNat_add, BitVec.ofNat_toNat, BitVec.setWidth_eq]
  cases decide (9 < al.toNat % 16) || fe.af <;> cases decide (0x99 < al.toNat) || fe.cf <;> simp

theorem das_value (al : Byte) (fe : FlagEngine) :
    (das al fe).1 = BitVec.ofNat 8
      (al.toNat + (if decide (9 < al.toNat % 16) || fe.af then 250 else 0) +
        (if decide (0x99 < al.toNat) || fe.cf then 0xA0 else 0)) := by
  simp only [das, lowDigitOff_eq, highDigitOff, BitVec.ofNat_add, BitVec.ofNat_toNat, BitVec.setWidth_eq]
  cases decide (9 < al.toNat % 16) || fe.af <;> cases decide (0x99 < al.toNat) || fe.cf <;>
    simp [BitVec.sub_eq_add_neg]

theorem das_flags (al : Byte) (fe : FlagEngine) :
    let low := decide (9 < al.toNat % 16) || fe.af
    let high := decide (0x99 < al.toNat) || fe.cf
    (das al fe).2.cf = (high || (low && decide (al.toNat < 6))) ∧ (das al fe).2.af = low := by
  simp only [das, lowDigitOff_eq, highDigitOff, decimalFlags]
  cases fe.cf <;> simp

theorem word16_div_mod_values {al b : Byte} :
    al % b = BitVec.ofNat 8 (al.toNat % b.toNat) ∧ al / b = BitVec.ofNat 8 (al.toNat / b.toNat) :=
  ⟨by rw [← BitVec.toNat_umod, BitVec.ofNat_toNat, BitVec.setWidth_eq],
    by rw [← BitVec.toNat_udiv, BitVec.ofNat_toNat, BitVec.setWidth_eq]⟩

/-- What AL reads as once AL and AH are replaced. -/
theorem reg8_al_setReg16_ax (s : State) (h l : Byte) : (s.setReg16 .ax (word16 h l)).reg8 .al = l := lo8_word16 h l

theorem asciiAdjust_adjusts {f : Byte → Byte → FlagEngine → Byte × Byte × FlagEngine} {s : State} {l h : Nat}
    (hc : sameControl s.fe (f (s.reg8 .al) (s.reg8 .ah) s.fe).2.2)
    (hl : (f (s.reg8 .al) (s.reg8 .ah) s.fe).1 = BitVec.ofNat 8 l)
    (hh : (f (s.reg8 .al) (s.reg8 .ah) s.fe).2.1 = BitVec.ofNat 8 h) :
    ∃ t, (asciiAdjust f s).outcome = .next t ∧ adjusted s t l h ∧ t.fe = (f (s.reg8 .al) (s.reg8 .ah) s.fe).2.2 :=
  ⟨_, rfl, adjusted_setReg16_ax hc _ _ _ _ hl hh, rfl⟩

theorem decimalAdjust_adjusts {f : Byte → FlagEngine → Byte × FlagEngine} {s : State} {l : Nat}
    (hc : sameControl s.fe (f (s.reg8 .al) s.fe).2) (hl : (f (s.reg8 .al) s.fe).1 = BitVec.ofNat 8 l) :
    ∃ t, (decimalAdjust f s).outcome = .next t ∧ adjusted s t l (s.reg8 .ah).toNat ∧ t.fe = (f (s.reg8 .al) s.fe).2 ∧
      t.reg8 .al = (f (s.reg8 .al) s.fe).1 :=
  ⟨_, rfl, adjusted_setReg16_ax hc _ _ _ _ hl (by rw [BitVec.ofNat_toNat, BitVec.setWidth_eq]; rfl), rfl,
    lo8_word16 _ _⟩

theorem adjustAfterMultiply_adjusts (s : State) {b : Byte} (hb : b.toNat ≠ 0) :
    ∃ t, (adjustAfterMultiply b s).outcome = .next t ∧
      adjusted s t ((s.reg8 .al).toNat % b.toNat) ((s.reg8 .al).toNat / b.toNat) ∧ zspOf t.fe (t.reg8 .al) := by
  have h0 : b ≠ 0 := fun h => hb (by rw [h]; rfl)
  obtain ⟨hl, hh⟩ := word16_div_mod_values (al := s.reg8 .al) (b := b)
  refine ⟨(s.setFlags (baseFlags (s.reg8 .al % b) (s.reg8 .al).toNat b.toNat ((s.reg8 .al).toNat % b.toNat)
    s.fe)).setReg16
    .ax (word16 (s.reg8 .al / b) (s.reg8 .al % b)), ?_, adjusted_setReg16_ax ?_ _ _ _ _ hl hh, ?_⟩
  · simp only [adjustAfterMultiply, aam, if_neg h0, Res.outcome_done]
  · exact ⟨rfl, rfl, rfl⟩
  · rw [reg8_al_setReg16_ax]
    exact setZsp_zspOf s.fe _

theorem adjustBeforeDivide_adjusts (s : State) (b : Byte) :
    ∃ t, (adjustBeforeDivide b s).outcome = .next t ∧
      adjusted s t ((s.reg8 .al).toNat + (s.reg8 .ah).toNat * b.toNat) 0 ∧ zspOf t.fe (t.reg8 .al) := by
  have hl : (aad (s.reg8 .al) (s.reg8 .ah) b s.fe).1 =
      BitVec.ofNat 8 ((s.reg8 .al).toNat + (s.reg8 .ah).toNat * b.toNat) := by
    simp [aad, BitVec.ofNat_add, BitVec.ofNat_mul]
  refine ⟨(s.setFlags (aad (s.reg8 .al) (s.reg8 .ah) b s.fe).2).setReg16 .ax
    (word16 0 (aad (s.reg8 .al) (s.reg8 .ah) b s.fe).1), rfl,
    adjusted_setReg16_ax ?_ _ _ _ _ hl rfl, ?_⟩
  · exact ⟨rfl, rfl, rfl⟩
  rw [reg8_al_setReg16_ax]
  exact setZsp_zspOf s.fe _

/-- Settles O40: each adjustment by the values of its algorithm. -/
theorem decimalAdjustForms : Obligations.DecimalAdjust := by
  intro s al ah low high
  obtain ⟨aal, aah, acf, aaf⟩ := aaa_values (s.reg8 .al) (s.reg8 .ah) s.fe
  obtain ⟨sal, sah, scf, saf⟩ := aas_values (s.reg8 .al) (s.reg8 .ah) s.fe
  obtain ⟨dcf, daf⟩ := das_flags (s.reg8 .al) s.fe
  refine ⟨?_, ?_, ?_, ?_, fun b => ⟨fun hb => ?_, fun hb => adjustAfterMultiply_adjusts s hb,
    adjustBeforeDivide_adjusts s b⟩⟩
  · obtain ⟨t, et, ha, hfe⟩ := asciiAdjust_adjusts (aaa_control _ _ _) aal aah
    exact ⟨t, et, ha, hfe ▸ acf, hfe ▸ aaf⟩
  · obtain ⟨t, et, ha, hfe⟩ := asciiAdjust_adjusts (aas_control _ _ _) sal sah
    exact ⟨t, et, ha, hfe ▸ scf, hfe ▸ saf⟩
  · obtain ⟨t, et, ha, hfe, hal⟩ := decimalAdjust_adjusts (f := daa) ⟨rfl, rfl, rfl⟩ (daa_value (s.reg8 .al) s.fe)
    refine ⟨t, et, ha, hfe ▸ rfl, hfe ▸ lowDigitOff_eq _ _, ?_⟩
    rw [hfe, hal]
    exact setZsp_zspOf s.fe _
  · obtain ⟨t, et, ha, hfe, hal⟩ := decimalAdjust_adjusts (f := das) ⟨rfl, rfl, rfl⟩ (das_value (s.reg8 .al) s.fe)
    refine ⟨t, et, ha, hfe ▸ dcf, hfe ▸ daf, ?_⟩
    rw [hfe, hal]
    exact setZsp_zspOf s.fe _
  · have h0 : b = 0 := BitVec.eq_of_toNat_eq hb
    change (adjustAfterMultiply b s).outcome = _
    simp only [adjustAfterMultiply, aam, if_pos h0, Res.outcome_raise]

end Sys2Proof.Machine
end

section
/-! The moves: flag images, MOV, segment registers, address loads, exchanges, ports (45, 46). -/

namespace Sys2Proof.Machine
open Claims

/-! ### The first access of a slot -/

section
variable {s : State} (hf : fresh s)
include hf

theorem writeEA8_fresh {rm : Rm Reg8} (hw : canWrite8 s rm) (g : BitVec 3) (v : Byte) :
    writeEA8 (modrm8 g rm) v s = .ok () (assign8 s rm v (opened (modrm8 g rm) s)) := by
  rw [← writeEA8_of_canWrite (decoded_opened (modrm8 g rm) s) hw (modrm8 g rm) v]
  simp only [writeEA8, decodeModRM_opened hf, decodeModRM_valid (opened_valid _ s)]

theorem writeEA16_fresh {rm : Rm Reg16} (hw : canWrite16 s rm) (g : BitVec 3) (v : Word) :
    writeEA16 (modrm16 g rm) v s = .ok () (assign16 s rm v (opened (modrm16 g rm) s)) := by
  rw [← writeEA16_of_canWrite (decoded_opened (modrm16 g rm) s) hw (modrm16 g rm) v]
  simp only [writeEA16, decodeModRM_opened hf, decodeModRM_valid (opened_valid _ s)]

theorem readRegField8_fresh (r : Reg8) (rm : Rm Reg8) :
    readRegField8 (modrm8 r.num rm) s = .ok (s.reg8 r) (opened (modrm8 r.num rm) s) := by
  rw [← readRegField8_opened r rm s]
  simp only [readRegField8, decodeModRM_opened hf, decodeModRM_valid (opened_valid _ s)]

theorem readRegField16_fresh (r : Reg16) (rm : Rm Reg16) :
    readRegField16 (modrm16 r.num rm) s = .ok (s.reg16 r) (opened (modrm16 r.num rm) s) := by
  rw [← readRegField16_opened r rm s]
  simp only [readRegField16, decodeModRM_opened hf, decodeModRM_valid (opened_valid _ s)]

end

/-! ### Flag images -/

/-- Settles O42. -/
theorem flagImageForms : Obligations.FlagImageForms := by
  refine fun s => ⟨rfl, rfl, rfl, fun h => ?_, fun h => ?_⟩
  · change Res.outcome (push16 _ s) = _
    rw [push16_of_canPush _ h]; rfl
  · change Res.outcome ((pop16 s).bind fun v s => .done (s.setFlags (setFlags16 v s.fe))) = _
    rw [pop16_of_canPop h]; rfl

/-! ### MOV -/

/-- Settles O43. -/
theorem moveForms : Obligations.MoveForms := by
  refine ⟨fun rm r s hf hw => ?_, fun rm r s hf hw => ?_, fun r rm s hf hr => ?_, fun r rm s hf hr => ?_,
    fun rm imm s hf hw => ?_, fun rm imm s hf hw => ?_, fun _ _ _ => rfl, fun _ _ _ => rfl, fun a s =>
    ⟨fun h => ?_, fun h => ?_, fun h => ?_, fun h => ?_⟩⟩
  · change Res.outcome (movRmR8 _ s) = _
    simp only [movRmR8, readRegField8_fresh hf, Res.bind_ok, writeEA8_of_canWrite (decoded_opened _ s) hw]; rfl
  · change Res.outcome (movRmR16 _ s) = _
    simp only [movRmR16, readRegField16_fresh hf, Res.bind_ok, writeEA16_of_canWrite (decoded_opened _ s) hw]; rfl
  · change Res.outcome (movRRm8 (modrm8 r.num rm) s) = _
    rw [movRRm8, readEA8_of_canRead _ hf hr, Res.bind_ok, writeRegField8_decoded (decoded_opened _ s) rfl]; rfl
  · change Res.outcome (movRRm16 (modrm16 r.num rm) s) = _
    rw [movRRm16, readEA16_of_canRead _ hf hr, Res.bind_ok, writeRegField16_decoded (decoded_opened _ s) rfl]; rfl
  · exact congrArg Res.outcome (writeEA8_fresh hf hw 0 imm)
  · exact congrArg Res.outcome (writeEA16_fresh hf hw 0 imm)
  · change Res.outcome ((memRead8 _ _ s).bind _) = _
    rw [memRead8_eq h]; rfl
  · change Res.outcome ((memRead16 _ _ s).bind _) = _
    rw [memRead16_of_readable h]; rfl
  · exact congrArg Res.outcome (memWrite8_eq _ h)
  · exact congrArg Res.outcome (memWrite16_of_writable _ h)

/-! ### Segment registers -/

/-- A load of DS, ES or SS: the register, or the fault of SEG_LOAD_CHECK. -/
theorem loadLaw_of_exec {r : SReg} (hr : r ≠ .cs) {i : Instr} {s o : State} {v : Word} (hh : o.hooks = s.hooks)
    (he : exec i s = (writeSReg r v o).outcome) : loadLaw r i s o v := by
  have hl : writeSReg r v o = writeSReg.loadData v o r := by
    cases r with
    | cs => exact absurd rfl hr
    | es | ss | ds => rfl
  refine ⟨fun h => ?_, fun f h => ?_⟩ <;> rw [he, hl, writeSReg.loadData, hh, h] <;> rfl

theorem movSRegRm_eq {s : State} {rm : Rm Reg16} (hf : fresh s) (hr : canRead16 s rm) (r : SReg) (g : BitVec 3) :
    movSRegRm r (modrm16 g rm) s = writeSReg r (operand16 s rm) (opened (modrm16 g rm) s) := by
  rw [movSRegRm, readEA16_of_canRead g hf hr, Res.bind_ok]

theorem popSReg_eq {s : State} (h : canPop s 0) (r : SReg) :
    popSReg r s = writeSReg r (stacked s 0) (s.setSP (s.regs.sp + 2)) := by
  rw [popSReg, pop16_of_canPop h, Res.bind_ok]

/-- Settles O44. -/
theorem segmentRegisterMoves : Obligations.SegmentRegisterMoves := by
  refine ⟨fun rm s hf hw => ⟨?_, ?_, ?_, ?_⟩, fun rm s hf hr => ⟨?_, fun h => ?_, ?_, ?_⟩, fun s h => ⟨?_, ?_, ?_, ?_⟩,
    fun s h => ⟨?_, ?_, ?_⟩⟩
  · exact congrArg Res.outcome (writeEA16_fresh hf hw 0 _)
  · exact congrArg Res.outcome (writeEA16_fresh hf hw 1 _)
  · exact congrArg Res.outcome (writeEA16_fresh hf hw 2 _)
  · exact congrArg Res.outcome (writeEA16_fresh hf hw 3 _)
  · exact loadLaw_of_exec (by decide) rfl (congrArg Res.outcome (movSRegRm_eq hf hr .es 0))
  · refine (congrArg Res.outcome (movSRegRm_eq hf hr .cs 1)).trans ?_
    exact congrArg Res.outcome (writeCS_of_executable (s := opened (modrm16 1 rm) s) h)
  · exact loadLaw_of_exec (by decide) rfl (congrArg Res.outcome (movSRegRm_eq hf hr .ss 2))
  · exact loadLaw_of_exec (by decide) rfl (congrArg Res.outcome (movSRegRm_eq hf hr .ds 3))
  · exact congrArg Res.outcome (push16_of_canPush _ h)
  · exact congrArg Res.outcome (push16_of_canPush _ h)
  · exact congrArg Res.outcome (push16_of_canPush _ h)
  · exact congrArg Res.outcome (push16_of_canPush _ h)
  · exact loadLaw_of_exec (by decide) rfl (congrArg Res.outcome (popSReg_eq h .es))
  · exact loadLaw_of_exec (by decide) rfl (congrArg Res.outcome (popSReg_eq h .ss))
  · exact loadLaw_of_exec (by decide) rfl (congrArg Res.outcome (popSReg_eq h .ds))

/-! ### Address loads -/

section
variable {s : State} {m : MemEA} (hf : fresh s)
include hf

theorem loadAddress_eq (r : Reg16) :
    loadAddress (modrmMem r.num m) s = .ok () ((opened (modrmMem r.num m) s).setReg16 r (eaOff s m)) := by
  rw [loadAddress, eaOffset_mem _ _ hf, Res.bind_ok, writeRegField16_decoded (decoded_opened _ s) rfl]

theorem loadPointer_eq (hp : pairReadable s m) (r : Reg16) (sr : SReg) :
    loadPointer sr (modrmMem r.num m) s =
      writeSReg sr (pairHigh s m) ((opened (modrmMem r.num m) s).setReg16 r (pairLow s m)) := by
  obtain ⟨h0, h2⟩ := readEAWordAt_pair r.num hp
  simp only [loadPointer, eaOffset_mem _ _ hf, Res.bind_ok, h0, h2]
  rw [writeRegField16_decoded (decoded_opened _ s) rfl, Res.bind_ok]

theorem checkBounds_inside (hp : pairReadable s m) {r : Reg16}
    (h : (pairLow s m).toInt ≤ (s.reg16 r).toInt ∧ (s.reg16 r).toInt ≤ (pairHigh s m).toInt) :
    checkBounds (modrmMem r.num m) s = .ok () (opened (modrmMem r.num m) s) := by
  obtain ⟨h0, h2⟩ := readEAWordAt_pair r.num hp
  have hi : ¬((s.reg16 r).toInt < (pairLow s m).toInt ∨ (pairHigh s m).toInt < (s.reg16 r).toInt) := by omega
  rw [checkBounds, eaOffset_mem _ _ hf, Res.bind_ok, h0, Res.bind_ok, h2, Res.bind_ok, readRegField16_openedMem,
    Res.bind_ok]
  exact if_neg hi

theorem checkBounds_outside (hp : pairReadable s m) {r : Reg16}
    (h : (s.reg16 r).toInt < (pairLow s m).toInt ∨ (pairHigh s m).toInt < (s.reg16 r).toInt) :
    checkBounds (modrmMem r.num m) s = .raise .boundRange (opened (modrmMem r.num m) s) := by
  obtain ⟨h0, h2⟩ := readEAWordAt_pair r.num hp
  rw [checkBounds, eaOffset_mem _ _ hf, Res.bind_ok, h0, Res.bind_ok, h2, Res.bind_ok, readRegField16_openedMem,
    Res.bind_ok]
  exact if_pos h

end

/-- Settles O45. -/
theorem addressLoads : Obligations.AddressLoads := by
  refine ⟨fun r m s hf => ?_, fun r m s hf hp => ⟨?_, ?_⟩, fun r m s hf hp => ⟨fun h => ?_, fun h => ?_⟩⟩
  · exact congrArg Res.outcome (loadAddress_eq hf r)
  · exact loadLaw_of_exec (by decide) rfl (congrArg Res.outcome (loadPointer_eq hf hp r .ds))
  · exact loadLaw_of_exec (by decide) rfl (congrArg Res.outcome (loadPointer_eq hf hp r .es))
  · exact congrArg Res.outcome (checkBounds_inside hf hp h)
  · exact congrArg Res.outcome (checkBounds_outside hf hp h)

/-! ### Exchanges and conversions -/

theorem decoded_assign8 {m : ModRM} {s : State} (rm : Rm Reg8) (v : Byte) :
    Decoded m s (assign8 s rm v (opened m s)) := by
  cases rm <;> exact ⟨rfl, rfl⟩

theorem decoded_assign16 {m : ModRM} {s : State} (rm : Rm Reg16) (v : Word) :
    Decoded m s (assign16 s rm v (opened m s)) := by
  cases rm <;> exact ⟨rfl, rfl⟩

theorem exchange8_eq {s : State} {rm : Rm Reg8} (hf : fresh s) (hr : canRead8 s rm) (hw : canWrite8 s rm) (r : Reg8) :
    exchange8 (modrm8 r.num rm) s =
      .ok () ((assign8 s rm (s.reg8 r) (opened (modrm8 r.num rm) s)).setReg8 r (operand8 s rm)) := by
  simp only [exchange8, readEA8_of_canRead _ hf hr, readRegField8_opened, Res.bind_ok,
    writeEA8_of_canWrite (decoded_opened _ s) hw]
  exact writeRegField8_decoded (decoded_assign8 rm _) rfl _

theorem exchange16_eq {s : State} {rm : Rm Reg16} (hf : fresh s) (hr : canRead16 s rm) (hw : canWrite16 s rm)
    (r : Reg16) :
    exchange16 (modrm16 r.num rm) s =
      .ok () ((assign16 s rm (s.reg16 r) (opened (modrm16 r.num rm) s)).setReg16 r (operand16 s rm)) := by
  simp only [exchange16, readEA16_of_canRead _ hf hr, readRegField16_opened, Res.bind_ok,
    writeEA16_of_canWrite (decoded_opened _ s) hw]
  exact writeRegField16_decoded (decoded_assign16 rm _) rfl _

/-- Settles O46. -/
theorem exchangeAndConvert : Obligations.ExchangeAndConvert := by
  refine ⟨fun rm r s hf hr hw => ?_, fun rm r s hf hr hw => ?_, fun s => ⟨rfl, rfl, rfl, rfl, rfl, rfl, rfl⟩,
    fun s => ⟨fun h => ?_, rfl, ?_⟩⟩
  · exact congrArg Res.outcome (exchange8_eq hf hr hw r)
  · exact congrArg Res.outcome (exchange16_eq hf hr hw r)
  · change Res.outcome ((memRead8 _ (s.regs.bx + (s.reg8 .al).setWidth 16) s).bind _) = _
    rw [memRead8_eq h]; rfl
  · change Host.Outcome.next (s.setReg16 .dx (if s.regs.ax.msb then 0xFFFF else 0)) = _
    simp only [BitVec.msb_eq_toInt, decide_eq_true_eq]
    rfl

/-! ### Ports -/

/-- Settles O47. -/
theorem portForms : Obligations.PortForms := by
  intro s imm
  have ho : ∀ port, portWrite16 port s.regs.ax s =
      .ok () (sentPort s [(port, s.reg8 .al), (port + 1, s.reg8 .ah)]) := by
    intro port
    simp only [portWrite16, portWrite8, sentPort, Res.done, Res.bind_ok, List.append_assoc]
    rfl
  exact ⟨rfl, rfl, rfl, rfl, rfl, rfl, congrArg Res.outcome (ho _), congrArg Res.outcome (ho _)⟩

end Sys2Proof.Machine
end

section
/-! The control transfers and the system instructions (48, 49 section 4). -/

namespace Sys2Proof.Machine
open Claims

/-! ### Jumps -/

theorem jumpIf_true (rel : Byte) (s : State) : jumpIf true rel s = s.setIP (s.ip + rel.signExtend 16) := rfl

theorem jumpIf_false (rel : Byte) (s : State) : jumpIf false rel s = s := rfl

theorem jcc_of_holds {mk : Byte → Instr} {c : FlagEngine → Prop} (d : Cond)
    (he : ∀ rel s, exec (mk rel) s = .next (jumpIf (d.holds s.fe) rel s)) (hd : ∀ fe, d.holds fe = true ↔ c fe) :
    jcc mk c := by
  refine fun rel s => ⟨fun h => ?_, fun h => ?_⟩
  · rw [he, (hd s.fe).mpr h, jumpIf_true]
  · rw [he, Bool.eq_false_iff.mpr fun e => h ((hd s.fe).mp e), jumpIf_false]

theorem loops_of_exec {mk : Byte → Instr} {c : FlagEngine → Prop} {b : FlagEngine → Bool}
    (he : ∀ rel s, exec (mk rel) s = .next (loopIf (b s.fe) rel s)) (hb : ∀ fe, b fe = true ↔ c fe) : loops mk c := by
  have hc : ∀ s : State, (s.regs.cx - 1 != 0 && b s.fe) = true ↔ s.regs.cx ≠ 1 ∧ c s.fe := fun s => by
    rw [Bool.and_eq_true, hb, bne_iff_ne, ne_eq, ne_eq, BitVec.sub_eq_iff_eq_add]
    rfl
  have hl : ∀ rel s, loopIf (b s.fe) rel s =
      jumpIf (s.regs.cx - 1 != 0 && b s.fe) rel (s.setReg16 .cx (s.regs.cx - 1)) := fun _ _ => rfl
  refine fun rel s => ⟨fun h => ?_, fun h => ?_⟩
  · rw [he, hl, (hc s).mpr h]; rfl
  · rw [he, hl, Bool.eq_false_iff.mpr fun e => h ((hc s).mp e), jumpIf_false]

theorem jumpFarChecked_of_executable {s : State} {sel : Word} (off : Word) (h : s.bus.isExecutable sel = true) :
    jumpFarChecked sel off s = .ok () ((s.setSReg .cs sel).setIP off) := by
  rw [jumpFarChecked, checkCS_of_executable h, Res.bind_ok, jumpFar_of_executable off h]

/-- Settles O50. -/
theorem jumpForms : Obligations.JumpForms := by
  refine ⟨fun _ _ => rfl, fun _ _ => rfl, ?_, fun rel s => ⟨fun h => ?_, fun h => ?_⟩, ⟨?_, ?_, ?_⟩,
    fun rm s hf hr => ?_,
    fun off sel s h => ?_, fun m s hf hp h => ?_⟩
  · refine ⟨jcc_of_holds .o (fun _ _ => rfl) ?_, jcc_of_holds .no (fun _ _ => rfl) ?_,
      jcc_of_holds .b (fun _ _ => rfl) ?_, jcc_of_holds .ae (fun _ _ => rfl) ?_,
      jcc_of_holds .e (fun _ _ => rfl) ?_, jcc_of_holds .ne (fun _ _ => rfl) ?_,
      jcc_of_holds .be (fun _ _ => rfl) ?_, jcc_of_holds .a (fun _ _ => rfl) ?_,
      jcc_of_holds .s (fun _ _ => rfl) ?_, jcc_of_holds .ns (fun _ _ => rfl) ?_,
      jcc_of_holds .p (fun _ _ => rfl) ?_, jcc_of_holds .np (fun _ _ => rfl) ?_,
      jcc_of_holds .l (fun _ _ => rfl) ?_, jcc_of_holds .ge (fun _ _ => rfl) ?_,
      jcc_of_holds .le (fun _ _ => rfl) ?_, jcc_of_holds .g (fun _ _ => rfl) ?_⟩ <;>
      simp [Cond.holds]
  · change Host.Outcome.next (jumpIf (s.regs.cx == 0) rel s) = _
    rw [h]; rfl
  · change Host.Outcome.next (jumpIf (s.regs.cx == 0) rel s) = _
    rw [beq_false_of_ne h]; rfl
  · exact loops_of_exec (b := fun _ => true) (fun _ _ => rfl) fun _ => iff_of_true rfl trivial
  · exact loops_of_exec (b := (·.zf)) (fun _ _ => rfl) fun _ => Iff.rfl
  · exact loops_of_exec (b := (!·.zf)) (fun _ _ => rfl) fun _ => by rw [Bool.not_eq_true']
  · change Res.outcome ((readEA16 (modrm16 4 rm) s).bind _) = _
    rw [readEA16_of_canRead 4 hf hr]; rfl
  · exact congrArg Res.outcome (jumpFarChecked_of_executable off h)
  · change Res.outcome ((farPointer (modrmMem 5 m) s).bind _) = _
    rw [farPointer_of_readable 5 hf hp]
    exact congrArg Res.outcome (jumpFarChecked_of_executable (s := opened (modrmMem 5 m) s) _ h)

/-! ### Calls -/

theorem callNear_of_canPush {s : State} (target : Word) (h : canPush s) :
    callNear target s = .ok () ((pushed s.ip s).setIP target) := by
  rw [callNear, push16_of_canPush _ h]; rfl

theorem callNear_of_refused {s t : State} {f : CpuFault} (target : Word) (h : pushRefused s s.ip f t) :
    callNear target s = .raise f t := by
  rw [callNear, push16_of_refused h]; rfl

theorem sub_two_sub_two (x : Word) : x - 2 - 2 = x - 4 := by bv_omega

theorem canPush_pushed {s : State} (v : Word) (h : writable16 s s.sregs.ss (s.regs.sp - 4)) : canPush (pushed v s) := by
  rw [← sub_two_sub_two] at h
  exact h

theorem callFar_of_canPush {s : State} {sel : Word} (off : Word) (hx : s.bus.isExecutable sel = true) (h : canPush s)
    (h' : writable16 s s.sregs.ss (s.regs.sp - 4)) :
    callFar sel off s = .ok () (((pushed s.ip (pushed s.sregs.cs s)).setSReg .cs sel).setIP off) := by
  rw [callFar, checkCS_of_executable hx, Res.bind_ok, push16_of_canPush _ h, Res.bind_ok,
    push16_of_canPush _ (canPush_pushed _ h'), Res.bind_ok]
  exact jumpFar_of_executable (s := pushed s.ip (pushed s.sregs.cs s)) off hx

theorem callFar_first_refused {s t : State} {sel : Word} {f : CpuFault} (off : Word)
    (hx : s.bus.isExecutable sel = true)
    (h : pushRefused s s.sregs.cs f t) : callFar sel off s = .raise f t := by
  rw [callFar, checkCS_of_executable hx, Res.bind_ok, push16_of_refused h, Res.bind_raise]

theorem callFar_second_refused {s t : State} {sel : Word} {f : CpuFault} (off : Word)
    (hx : s.bus.isExecutable sel = true) (h : canPush s) (h' : pushRefused (pushed s.sregs.cs s) s.ip f t) :
    callFar sel off s = .raise f t := by
  rw [callFar, checkCS_of_executable hx, Res.bind_ok, push16_of_canPush _ h, Res.bind_ok]
  exact (congrArg (Res.bind · _) (push16_of_refused (s := pushed s.sregs.cs s) h')).trans (Res.bind_raise _ _ _)

theorem farPushFaults_of_exec {i : Instr} {s o : State} {sel off : Word}
    (he : exec i s = (callFar sel off o).outcome) (hx : o.bus.isExecutable sel = true) : farPushFaults i s o := by
  refine fun f t => ⟨fun h => ?_, fun h h' => ?_⟩
  · rw [he, callFar_first_refused off hx h]; rfl
  · rw [he, callFar_second_refused off hx h h']; rfl

theorem exec_callFarMem {s : State} {m : MemEA} (hf : fresh s) (hp : pairReadable s m) :
    exec (.callFarMem m) s = (callFar (pairHigh s m) (pairLow s m) (opened (modrmMem 3 m) s)).outcome := by
  change Res.outcome ((farPointer (modrmMem 3 m) s).bind _) = _
  rw [farPointer_of_readable 3 hf hp, Res.bind_ok]

theorem exec_callRm16 {s : State} {rm : Rm Reg16} (hf : fresh s) (hr : canRead16 s rm) :
    exec (.callRm16 rm) s = (callNear (operand16 s rm) (opened (modrm16 2 rm) s)).outcome := by
  change Res.outcome ((readEA16 (modrm16 2 rm) s).bind _) = _
  rw [readEA16_of_canRead 2 hf hr, Res.bind_ok]

/-! ### Returns -/

theorem returnNear_of_canPop {s : State} (n : Word) (h : canPop s 0) :
    returnNear n s = .ok () ((s.setIP (stacked s 0)).setSP (s.regs.sp + 2 + n)) := by
  rw [returnNear, pop16_of_canPop h]; rfl

theorem returnFar_of_canPop {s : State} (n : Word) (h0 : canPop s 0) (h2 : canPop s 2)
    (hx : s.bus.isExecutable (stacked s 2) = true) :
    returnFar n s = .ok () (((s.setSReg .cs (stacked s 2)).setIP (stacked s 0)).setSP (s.regs.sp + 4 + n)) := by
  simp only [returnFar, stackWord_of_canPop h0, stackWord_of_canPop h2, Res.bind_ok, checkCS_of_executable hx,
    jumpFar_of_executable _ hx]
  rfl

theorem returnFromInterrupt_of_canPop {s : State} (h0 : canPop s 0) (h2 : canPop s 2) (h4 : canPop s 4)
    (hx : s.bus.isExecutable (stacked s 2) = true) :
    returnFromInterrupt s =
      .ok () ((((s.setSReg .cs (stacked s 2)).setIP (stacked s 0)).setFlags (setFlags16 (stacked s 4) s.fe)).setSP
        (s.regs.sp + 6)) := by
  simp only [returnFromInterrupt, stackWord_of_canPop h0, stackWord_of_canPop h2, stackWord_of_canPop h4, Res.bind_ok,
    checkCS_of_executable hx, jumpFar_of_executable _ hx]
  rfl

/-- Settles O51. -/
theorem callAndReturnForms : Obligations.CallAndReturnForms := by
  refine ⟨fun rel s h => ?_, fun rm s hf hr h => ?_, fun off sel s hx h h' => ?_, fun m s hf hp hx h h' => ?_,
    fun n s h0 => ⟨?_, ?_, fun h2 hx => ⟨?_, ?_, fun h4 => ?_⟩⟩, fun rel s f t h => ?_, fun rm s f t hf hr h => ?_,
    fun off sel s hx => ?_, fun m s hf hp hx => ?_⟩
  · exact congrArg Res.outcome (callNear_of_canPush _ h)
  · exact (exec_callRm16 hf hr).trans
      (congrArg Res.outcome (callNear_of_canPush (s := opened (modrm16 2 rm) s) _ h))
  · exact congrArg Res.outcome (callFar_of_canPush off hx h h')
  · exact (exec_callFarMem hf hp).trans
      (congrArg Res.outcome (callFar_of_canPush (s := opened (modrmMem 3 m) s) _ hx h h'))
  · have h := congrArg Res.outcome (returnNear_of_canPop 0 h0)
    rwa [show s.regs.sp + 2 + 0 = s.regs.sp + 2 from BitVec.add_zero _] at h
  · exact congrArg Res.outcome (returnNear_of_canPop n h0)
  · have h := congrArg Res.outcome (returnFar_of_canPop 0 h0 h2 hx)
    rwa [show s.regs.sp + 4 + 0 = s.regs.sp + 4 from BitVec.add_zero _] at h
  · exact congrArg Res.outcome (returnFar_of_canPop n h0 h2 hx)
  · exact congrArg Res.outcome (returnFromInterrupt_of_canPop h0 h2 h4 hx)
  · exact congrArg Res.outcome (callNear_of_refused _ h)
  · exact (exec_callRm16 hf hr).trans
      (congrArg Res.outcome (callNear_of_refused (s := opened (modrm16 2 rm) s) _ h))
  · exact farPushFaults_of_exec rfl hx
  · exact farPushFaults_of_exec (exec_callFarMem hf hp) hx

/-! ### Software interrupts -/

theorem softwareInterrupt_of_no_answer {s : State} (h : s.hooks.debug = none ∨ ∃ c, s.hooks.debug = some ⟨c, []⟩)
    (n : Byte) : softwareInterrupt n s = dispatch n .software none s := by
  have ha : softIntAllowed s = (true, s) := by
    obtain h | ⟨c, h⟩ := h <;> simp only [softIntAllowed, h]
  rw [softwareInterrupt, ha]

theorem softwareInterrupt_of_answer {s : State} {c l : List HookAnswer} {a : HookAnswer}
    (h : s.hooks.debug = some ⟨c, a :: l⟩) (n : Byte) :
    let t := applyWrites a.writes { s with hooks := { s.hooks with debug := some ⟨c, l⟩ } }
    softwareInterrupt n s = if a.yes then dispatch n .software none t else t := by
  have ha : softIntAllowed s =
      (a.yes, applyWrites a.writes { s with hooks := { s.hooks with debug := some ⟨c, l⟩ } }) := by
    simp only [softIntAllowed, h]
  intro t
  rw [softwareInterrupt, ha]
  cases a.yes <;> rfl

theorem exec_into_of_overflow {s : State} (h : s.fe.of_ = true) :
    exec .into s = .next (softwareInterrupt s.params.vecOverflow s) :=
  congrArg Host.Outcome.next (if_pos h)

/-- Settles O52. -/
theorem softwareInterruptForms : Obligations.SoftwareInterruptForms := by
  refine ⟨fun s n h => ⟨?_, ?_, fun ho => ?_⟩, fun s h => ?_, fun s n c l a h => ⟨?_, ?_, fun ho => ?_⟩⟩
  · exact congrArg Host.Outcome.next (softwareInterrupt_of_no_answer h _)
  · exact congrArg Host.Outcome.next (softwareInterrupt_of_no_answer h _)
  · rw [exec_into_of_overflow ho, softwareInterrupt_of_no_answer h]
  · exact congrArg Host.Outcome.next (if_neg (by simp [h]))
  · exact congrArg Host.Outcome.next (softwareInterrupt_of_answer h _)
  · exact congrArg Host.Outcome.next (softwareInterrupt_of_answer h _)
  · rw [exec_into_of_overflow ho, softwareInterrupt_of_answer h]

/-! ### System instructions -/

theorem unlessEscInvalid_nop {r : Res Unit} {s : State} (h : s.params.esc = .nop) :
    unlessEscInvalid r s = r := by
  simp only [unlessEscInvalid, h]

theorem unlessEscInvalid_invalid {r : Res Unit} {s : State} (h : s.params.esc = .invalid) :
    unlessEscInvalid r s = .raise .invalidOpcode s := by
  simp only [unlessEscInvalid, h]

theorem exec_esc (n : BitVec 3) (g : BitVec 3) (rm : Rm Reg16) (s : State) :
    exec (.esc n g rm) s = (unlessEscInvalid (.done (decodeModRM (modrm16 g rm) s))
      (s.setIP (s.ip - BitVec.ofNat 16 ((encode (.esc n g rm)).length - 1)))).outcome := rfl

theorem exec_prefix {i : Instr} (s : State) (h : i.isPrefix = true) : exec i s = .next (prefixState i s) := by
  cases i with
  | prefixEs | prefixCs | prefixSs | prefixDs | prefixLock | prefixRepne | prefixRep => rfl
  | _ => cases h

/-- Settles O56. -/
theorem systemForms : Obligations.SystemForms := by
  refine ⟨fun s => ⟨rfl, rfl, fun h => ?_, fun h => ?_⟩, fun n g rm s => ⟨fun h hf => ?_, fun h => ?_⟩, fun s i h =>
    exec_prefix s h⟩
  · exact congrArg Res.outcome (unlessEscInvalid_nop h)
  · exact congrArg Res.outcome (unlessEscInvalid_invalid h)
  · simp only [exec_esc, unlessEscInvalid, State.setIP_params, h, decodeModRM_opened hf, Res.outcome_done]
  · simp only [exec_esc, unlessEscInvalid, State.setIP_params, h, Res.outcome_raise]

end Sys2Proof.Machine
end

section
/-! The frame of a state change: what it leaves unchanged, kept by every elementary update that stays within reach. -/

namespace Sys2Proof.Machine
open Claims

theorem framedBy_refl (s : State) (f : Reach) (stored : List Nat) : framedBy s s f stored :=
  ⟨fun _ _ => rfl, fun _ _ => rfl, fun _ _ => rfl, fun _ => ⟨rfl, rfl, rfl⟩, by simp [sameMachinery], fun _ => rfl,
    fun _ _ _ => rfl⟩

section
variable {s t : State} {f : Reach} {stored : List Nat} (h : framedBy s t f stored)
include h

/-- A frame that reaches only general registers and status flags is the plain frame. -/
theorem framed_of_framedBy {regs : List Reg16} {flags : Bool} (hf : f = { regs := regs, status := flags }) :
    framed s t regs flags stored := by
  obtain ⟨hr, hs, hfe, hc, hm, hp, hb⟩ := h
  subst hf
  obtain ⟨ht, hi, hd⟩ := hc rfl
  refine ⟨hr, ?_, fun e => hfe e rfl, ht, hi, hd, hm, hp rfl, hb⟩
  have hes := hs .es (by simp)
  have hcs := hs .cs (by simp)
  have hss := hs .ss (by simp)
  have hds := hs .ds (by simp)
  cases ht : t.sregs
  cases hs' : s.sregs
  simp_all [State.sreg]

theorem framedBy_bus : t.bus = s.bus := by
  obtain ⟨-, -, -, -, ⟨-, -, -, -, -, -, -, -, -, -, -, -, -, hb⟩, -, -⟩ := h
  exact hb

theorem framedBy_setReg16 {r : Reg16} (hr : r ∈ f.regs) (v : Word) : framedBy s (t.setReg16 r v) f stored := by
  obtain ⟨hg, hs, hfe, hc, hm, hp, hb⟩ := h
  refine ⟨fun q hq => ?_, hs, hfe, hc, hm, hp, hb⟩
  have hne : q ≠ r := by
    rintro rfl
    exact hq hr
  rw [State.reg16_setReg16_of_ne _ _ hne]
  exact hg q hq

theorem framedBy_setReg8 {r : Reg8} (hr : parentReg r ∈ f.regs) (v : Byte) : framedBy s (t.setReg8 r v) f stored := by
  have : t.setReg8 r v = t.setReg16 (parentReg r) ((t.setReg8 r v).reg16 (parentReg r)) := by
    cases r <;> rfl
  rw [this]
  exact framedBy_setReg16 h hr _

theorem framedBy_setSP (hr : Reg16.sp ∈ f.regs) (v : Word) : framedBy s (t.setSP v) f stored := framedBy_setReg16 h hr v

theorem framedBy_setSReg {r : SReg} (hr : r ∈ f.sregs) (v : Word) : framedBy s (t.setSReg r v) f stored := by
  obtain ⟨hg, hs, hfe, hc, hm, hp, hb⟩ := h
  refine ⟨fun q hq => ?_, fun q hq => ?_, ?_, ?_, ?_, ?_, fun seg off hn => ?_⟩
  · exact (congrArg (·.get16 q) (State.setSReg_regs t r v)).trans (hg q hq)
  · have hne : q ≠ r := by
      rintro rfl
      exact hq hr
    rw [State.sreg_setSReg_of_ne _ _ hne]
    exact hs q hq
  · rwa [State.setSReg_fe]
  · rwa [State.setSReg_fe]
  · cases r <;> exact hm
  · rwa [State.setSReg_ports]
  · cases r <;> exact hb seg off hn

theorem framedBy_setIP (v : Word) : framedBy s (t.setIP v) f stored := h

theorem framedBy_doc (d : OperandCache) : framedBy s { t with doc := d } f stored := h

theorem framedBy_ports (hp : f.ports = true) (p : Ports) : framedBy s { t with ports := p } f stored := by
  obtain ⟨hg, hs, hfe, hc, hm, -, hb⟩ := h
  exact ⟨hg, hs, hfe, hc, hm, fun e => absurd (hp.symm.trans e) (by decide), hb⟩

/-- A write of the status flags. -/
theorem framedBy_setFlags {fe : FlagEngine} (hf : f.status = true) (hk : sameControl t.fe fe) :
    framedBy s (t.setFlags fe) f stored := by
  obtain ⟨hg, hs, -, hc, hm, hp, hb⟩ := h
  refine ⟨hg, hs, fun e => ?_, fun e => ?_, hm, hp, hb⟩
  · rw [hf] at e; cases e
  · obtain ⟨ht, hi, hd⟩ := hc e
    exact ⟨hk.1.trans ht, hk.2.1.trans hi, hk.2.2.trans hd⟩

/-- A load of all flags. -/
theorem framedBy_loadFlags (hf : f.control = true) (fe : FlagEngine) : framedBy s (t.setFlags fe) f stored := by
  obtain ⟨hg, hs, -, -, hm, hp, hb⟩ := h
  refine ⟨hg, hs, fun _ e => ?_, fun e => ?_, hm, hp, hb⟩ <;> rw [hf] at e <;> cases e

theorem framedBy_putByte {seg off : Word} (ha : busAddr s.bus.map seg off ∈ stored) (v : Byte) :
    framedBy s (t.putByte seg off v) f stored := by
  have hbus := framedBy_bus h
  obtain ⟨hg, hs, hfe, hc, hm, hp, hb⟩ := h
  refine ⟨hg, hs, hfe, hc, hm, hp, fun seg' off' hn => ?_⟩
  rw [State.byteAt_putByte_of_not_mem]
  · exact hb seg' off' hn
  · rw [hbus, List.mem_singleton]
    exact fun e => hn (e ▸ ha)

theorem framedBy_putWord {seg off : Word} (ha : wordCells s seg off ⊆ stored) (v : Word) :
    framedBy s (t.putWord seg off v) f stored :=
  framedBy_putByte (framedBy_putByte h (ha (by simp [wordCells])) _) (ha (by simp [wordCells])) _

/-- The push of one word, at the stack pointer of the moment. -/
theorem framedBy_pushed {seg off : Word} (hr : Reg16.sp ∈ f.regs) (hs : t.sregs.ss = seg) (ho : t.regs.sp - 2 = off)
    (ha : wordCells s seg off ⊆ stored) (v : Word) : framedBy s (pushed v t) f stored := by
  subst hs ho
  exact framedBy_setSP (framedBy_putWord h ha v) hr _

end

theorem framedBy_mono {s t : State} {f g : Reach} {stored stored' : List Nat} (h : framedBy s t f stored)
    (hr : f.regs ⊆ g.regs) (hs : f.sregs ⊆ g.sregs) (hst : f.status = true → g.status = true)
    (hco : f.control = true → g.control = true) (hpo : f.ports = true → g.ports = true) (hsub : stored ⊆ stored') :
    framedBy s t g stored' := by
  obtain ⟨hg, hsr, hfe, hc, hm, hp, hb⟩ := h
  refine ⟨fun r hn => hg r fun e => hn (hr e), fun r hn => hsr r fun e => hn (hs e), fun e e' => hfe ?_ ?_,
    fun e => hc ?_,
    hm, fun e => hp ?_, fun seg off hn => hb seg off fun e => hn (hsub e)⟩ <;>
  exact Bool.eq_false_iff.mpr fun c => by simp_all

end Sys2Proof.Machine
end

section
/-! Words pushed one after another, all of them or up to a refused one (47 section 1). -/

namespace Sys2Proof.Machine
open Claims

theorem sub_two_mul_succ (x : Word) (n : Nat) :
    x - BitVec.ofNat 16 (2 * (n + 1)) = x - 2 - BitVec.ofNat 16 (2 * n) := by
  rw [show 2 * (n + 1) = 2 * n + 2 from rfl, BitVec.ofNat_add]
  bv_omega

theorem canPushAll_pushed {s : State} {k : Nat} (v : Word) (h : canPushAll s (k + 1)) : canPushAll (pushed v s) k := by
  intro i hi
  have hw := h (i + 1) (Nat.succ_lt_succ hi)
  rw [sub_two_mul_succ] at hw
  exact hw

theorem canPush_of_canPushAll {s : State} {k : Nat} (h : canPushAll s (k + 1)) : canPush s :=
  h 0 (Nat.succ_pos k)

theorem pushList_of_canPushAll {s : State} (l : List Word) (h : canPushAll s l.length) :
    pushList l s = .ok () (pushedAll l s) := by
  induction l generalizing s with
  | nil => rfl
  | cons v l ih =>
    rw [pushList, push16_of_canPush v (canPush_of_canPushAll h), Res.bind_ok]
    exact ih (canPushAll_pushed v h)

/-- A push refused after `k` others: the earlier ones stay made (60 R651). -/
theorem pushList_of_refused {s t : State} {l : List Word} {k : Nat} {v : Word} {f : CpuFault} (hv : l[k]? = some v)
    (h : canPushAll s k) (hf : pushRefused (pushedAll (l.take k) s) v f t) : pushList l s = .raise f t := by
  induction l generalizing s k with
  | nil => cases hv
  | cons w l ih =>
    cases k with
    | zero =>
      cases hv
      exact (congrArg (Res.bind · _) (push16_of_refused hf)).trans (Res.bind_raise _ _ _)
    | succ k =>
      rw [pushList, push16_of_canPush w (canPush_of_canPushAll h), Res.bind_ok]
      exact ih hv (canPushAll_pushed w h) hf

/-- Whatever the bus says, a push that completes leaves the pushed state. -/
theorem push16_cases (v : Word) (s : State) : (∃ f t, push16 v s = .raise f t) ∨ push16 v s = .ok () (pushed v s) := by
  cases h0 : s.bus.refusal true s.sregs.ss (s.regs.sp - 2) with
  | some f => exact .inl ⟨f, s, push16_of_refused (.inl ⟨h0, rfl⟩)⟩
  | none =>
    cases h1 : s.bus.refusal true s.sregs.ss (s.regs.sp - 2 + 1) with
    | some f => exact .inl ⟨f, _, push16_of_refused (.inr ⟨h0, h1, rfl⟩)⟩
    | none => exact .inr (push16_of_canPush v ⟨h0, h1⟩)

end Sys2Proof.Machine
end

section
/-! Dispatch (60 section 2): the vector, the frame pushed, the entry into the handler, and the ways it is fatal. -/

namespace Sys2Proof.Machine
open Claims

/-! ### The vector -/

theorem vectorOffset_eq (n : Byte) : vectorOffset n = 4 * zext8 n := BitVec.mul_comm _ _

theorem readVector_of_readable {s : State} {n : Byte} (h : vectorReadable s n) :
    readVector n s = .ok (vectorOff s n, vectorSel s n) s := by
  obtain ⟨h0, h2⟩ := h
  rw [readVector, vectorOffset_eq, memRead16_of_readable h0, Res.bind_ok, memRead16_of_readable h2]
  rfl

/-- A vector entry refused at its byte `j`. -/
theorem readVector_of_refused {s : State} {n : Byte} {j : Nat} {f : CpuFault} (hj : j < 4)
    (hr : ∀ i < j, readable8 s s.params.ivtSel (4 * zext8 n + BitVec.ofNat 16 i))
    (hf : s.bus.refusal false s.params.ivtSel (4 * zext8 n + BitVec.ofNat 16 j) = some f) :
    readVector n s = .raise f s := by
  have byte (i : Nat) (x : Word) (e : 4 * zext8 n + BitVec.ofNat 16 i = x) (hi : i < j) :
      readable8 s s.params.ivtSel x := e ▸ hr i hi
  have b1 : 4 * zext8 n + BitVec.ofNat 16 1 = 4 * zext8 n + 1 := rfl
  have b2 : 4 * zext8 n + BitVec.ofNat 16 2 = 4 * zext8 n + 2 := rfl
  have b3 : 4 * zext8 n + BitVec.ofNat 16 3 = 4 * zext8 n + 2 + 1 := by bv_omega
  have b0 : 4 * zext8 n + BitVec.ofNat 16 0 = 4 * zext8 n := BitVec.add_zero _
  rw [readVector, vectorOffset_eq]
  interval_cases j
  · rw [b0] at hf
    rw [memRead16_of_refused (.inl hf), Res.bind_raise]
  · rw [b1] at hf
    rw [memRead16_of_refused (.inr ⟨byte 0 _ b0 (by decide), hf⟩), Res.bind_raise]
  · rw [b2] at hf
    rw [memRead16_of_readable ⟨byte 0 _ b0 (by decide), byte 1 _ b1 (by decide)⟩, Res.bind_ok,
      memRead16_of_refused (.inl hf), Res.bind_raise]
  · rw [b3] at hf
    rw [memRead16_of_readable ⟨byte 0 _ b0 (by decide), byte 1 _ b1 (by decide)⟩, Res.bind_ok,
      memRead16_of_refused (.inr ⟨byte 2 _ b2 (by decide), hf⟩), Res.bind_raise]

/-! ### The frame -/

/-- The words a dispatch pushes, in order: the flag image, CS and IP (60 R620). -/
def frameWords (s : State) : List Word := [flagsImage16 s.params s.fe, s.sregs.cs, s.ip]

/-- The state once the three words of a dispatch are pushed. -/
def framePushed (s : State) : State := pushedAll (frameWords s) s

theorem canPushAll_of_frameWritable {s : State} (h : frameWritable s) : canPushAll s 3 := by
  obtain ⟨h2, h4, h6⟩ := h
  intro i hi
  interval_cases i
  · exact h2
  · exact h4
  · exact h6

/-- The entry into a handler is the push of its frame, then the jump with the handler's flags. -/
theorem enterHandler_eq (off sel : Word) (s : State) :
    enterHandler off sel s =
      (pushList (frameWords s) s).bind fun _ s => jumpFar sel off (s.setFlags (enterFlags s.params s.fe)) := by
  rw [frameWords, pushList.eq_2, enterHandler]
  obtain ⟨f, t, e⟩ | e := push16_cases (flagsImage16 s.params s.fe) s
  · simp only [e, Res.bind_raise]
  · rw [e, Res.bind_ok, Res.bind_ok]
    change (push16 s.sregs.cs (pushed _ s)).bind _ = _
    obtain ⟨f, t, e⟩ | e := push16_cases s.sregs.cs (pushed (flagsImage16 s.params s.fe) s)
    · rw [pushList, e]
      rfl
    · rw [pushList, e, Res.bind_ok, Res.bind_ok]
      change (push16 s.ip (pushed _ (pushed _ s))).bind _ = _
      obtain ⟨f, t, e⟩ | e := push16_cases s.ip (pushed s.sregs.cs (pushed (flagsImage16 s.params s.fe) s)) <;>
        rw [pushList, e] <;> rfl

/-- The state in which a handler is entered: the frame pushed, the flags the handler's. -/
def handlerState (s : State) : State := (framePushed s).setFlags (enterFlags s.params s.fe)

theorem enterHandler_of_frameWritable {s : State} (off sel : Word) (h : frameWritable s) :
    enterHandler off sel s = jumpFar sel off (handlerState s) := by
  rw [enterHandler_eq, pushList_of_canPushAll _ (canPushAll_of_frameWritable h)]
  rfl

theorem handlerState_regs (s : State) : (handlerState s).regs = { s.regs with sp := s.regs.sp - 6 } := by
  have h : s.regs.sp - 2 - 2 - 2 = s.regs.sp - 6 := by bv_omega
  rw [← h]
  rfl

theorem handlerState_sregs (s : State) : (handlerState s).sregs = s.sregs := rfl

theorem handlerState_ipStart (s : State) : (handlerState s).ipStart = s.ipStart := rfl

theorem framePushed_frame (s : State) : framedBy s (framePushed s) { regs := [.sp] } (frameCells s) := by
  have h4 : s.regs.sp - 2 - 2 = s.regs.sp - 4 := by bv_omega
  have h6 : s.regs.sp - 2 - 2 - 2 = s.regs.sp - 6 := by bv_omega
  have sub2 : wordCells s s.sregs.ss (s.regs.sp - 2) ⊆ frameCells s := by simp [frameCells]
  have sub4 : wordCells s s.sregs.ss (s.regs.sp - 4) ⊆ frameCells s := by simp [frameCells]
  have sub6 : wordCells s s.sregs.ss (s.regs.sp - 6) ⊆ frameCells s := by simp [frameCells]
  have hsp : Reg16.sp ∈ ({ regs := [.sp] } : Reach).regs := List.mem_singleton.mpr rfl
  have f2 := framedBy_pushed (framedBy_refl s _ _) hsp rfl rfl sub2 (flagsImage16 s.params s.fe)
  have f4 := framedBy_pushed f2 hsp rfl h4 sub4 s.sregs.cs
  exact framedBy_pushed f4 hsp rfl h6 sub6 s.ip

/-- A word pushed just now is at the stack pointer. -/
theorem stacked_pushed_zero {s : State} (hw : s.mem.wf) (v : Word) : stacked (pushed v s) 0 = v := by
  have h : stacked (pushed v s) 0 = (s.putWord s.sregs.ss (s.regs.sp - 2) v).wordAt s.sregs.ss (s.regs.sp - 2) :=
    congrArg ((pushed v s).wordAt s.sregs.ss) (BitVec.add_zero (s.regs.sp - 2))
  rw [h, State.wordAt_putWord hw]

/-- A push leaves the words above it, two bytes further from the stack pointer. -/
theorem stacked_pushed_add_two {s : State} {k : Word} (hk : k.toNat < 0xFFFD) (v : Word) :
    stacked (pushed v s) (k + 2) = stacked s k := by
  have h : stacked (pushed v s) (k + 2) =
      (s.putWord s.sregs.ss (s.regs.sp - 2) v).wordAt s.sregs.ss (s.regs.sp + k) :=
    congrArg ((pushed v s).wordAt s.sregs.ss) (show s.regs.sp - 2 + (k + 2) = s.regs.sp + k by bv_omega)
  rw [h, State.wordAt_putWord_of_ne v (by bv_omega) (by bv_omega) (by bv_omega)]
  rfl

theorem stacked_handlerState {s : State} (hw : s.mem.wf) :
    stacked (handlerState s) 0 = s.ip ∧ stacked (handlerState s) 2 = s.sregs.cs ∧
      stacked (handlerState s) 4 = flagsImage16 s.params s.fe := by
  let a := pushed (flagsImage16 s.params s.fe) s
  let b := pushed s.sregs.cs a
  have ha : a.mem.wf := State.putWord_wf hw _ _ _
  have hb : b.mem.wf := State.putWord_wf ha _ _ _
  have top : stacked b 0 = s.sregs.cs := stacked_pushed_zero ha _
  have next : stacked b 2 = flagsImage16 s.params s.fe :=
    (stacked_pushed_add_two (s := a) (k := 0) (by decide) _).trans (stacked_pushed_zero hw _)
  exact ⟨stacked_pushed_zero (s := b) hb s.ip, (stacked_pushed_add_two (s := b) (k := 0) (by decide) s.ip).trans top,
    (stacked_pushed_add_two (s := b) (k := 2) (by decide) s.ip).trans next⟩

theorem pushedAll_keeps (l : List Word) (s : State) :
    (pushedAll l s).sregs = s.sregs ∧ (pushedAll l s).ipStart = s.ipStart := by
  induction l generalizing s with
  | nil => exact ⟨rfl, rfl⟩
  | cons v l ih => exact ih (pushed v s)

theorem pushRefused_keeps {s t : State} {v : Word} {f : CpuFault} (h : pushRefused s v f t) :
    t.sregs = s.sregs ∧ t.ipStart = s.ipStart := by
  obtain ⟨-, rfl⟩ | ⟨-, -, rfl⟩ := h <;> exact ⟨rfl, rfl⟩

theorem jumpFar_of_not_executable {s : State} {sel : Word} (off : Word) (h : s.bus.isExecutable sel = false) :
    jumpFar sel off s = .raise (.nonExecutableSegment sel) s := by
  rw [jumpFar, writeCS_of_not_executable h, Res.bind_raise]

theorem stacked_fatal (s : State) (r : Option FatalReason) (k : Word) :
    stacked { s with fatal := r } k = stacked s k := rfl

theorem stopFatal_of_keeps {s t : State} (hs : t.sregs = s.sregs) (hi : t.ipStart = s.ipStart) (w n k c) :
    t.stopFatal w n k c = { t with fatal := some ⟨w, n, k, c, s.sregs.cs, s.ipStart⟩ } := by
  rw [State.stopFatal, hs, hi]

/-! ### The ways of a dispatch -/

section
variable {s u : State} (n : Byte) (k : IntKind) (c : Option CpuFault)

theorem dispatch_of_claimed (h : hostClaims s = (true, u)) : dispatch n k c s = u := by
  rw [dispatch, h]

theorem dispatch_of_refused_vector {n : Byte} {f : CpuFault} (h : hostClaims s = (false, u))
    (hf : readVector n u = .raise f u) : dispatch n k c s = u.stopFatal (.dispatchFault f) n k c := by
  simp only [dispatch, h, hf]

theorem dispatch_of_null_vector {n : Byte} (h : hostClaims s = (false, u)) (hv : vectorReadable u n)
    (h0 : vectorOff u n = 0) (h2 : vectorSel u n = 0) : dispatch n k c s = u.stopFatal .noHandler n k c := by
  simp only [dispatch, h, readVector_of_readable hv, h0, h2, and_self, if_true]

variable {n}

theorem dispatch_of_entered {t : State} (h : hostClaims s = (false, u)) (hv : vectorReadable u n)
    (hn : vectorOff u n ≠ 0 ∨ vectorSel u n ≠ 0) (he : enterHandler (vectorOff u n) (vectorSel u n) u = .ok () t) :
    dispatch n k c s = t := by
  have hz : ¬(vectorOff u n = 0 ∧ vectorSel u n = 0) := not_and_or.mpr hn
  simp only [dispatch, h, readVector_of_readable hv, if_neg hz, he]

theorem dispatch_of_raised {t : State} {f : CpuFault} (h : hostClaims s = (false, u)) (hv : vectorReadable u n)
    (hn : vectorOff u n ≠ 0 ∨ vectorSel u n ≠ 0) (he : enterHandler (vectorOff u n) (vectorSel u n) u = .raise f t) :
    dispatch n k c s = t.stopFatal (.dispatchFault f) n k c := by
  have hz : ¬(vectorOff u n = 0 ∧ vectorSel u n = 0) := not_and_or.mpr hn
  simp only [dispatch, h, readVector_of_readable hv, if_neg hz, he]

theorem dispatch_of_executable (h : hostClaims s = (false, u)) (hv : vectorReadable u n)
    (hn : vectorOff u n ≠ 0 ∨ vectorSel u n ≠ 0) (hw : frameWritable u)
    (hx : u.bus.isExecutable (vectorSel u n) = true) :
    dispatch n k c s = ((handlerState u).setSReg .cs (vectorSel u n)).setIP (vectorOff u n) :=
  dispatch_of_entered k c h hv hn
    ((enterHandler_of_frameWritable _ _ hw).trans (jumpFar_of_executable (s := handlerState u) _ hx))

end

/-! ### The obligations -/

/-- Settles O9. -/
theorem dispatchEntersHandler : Obligations.DispatchEntersHandler := by
  refine ⟨fun s u n k c h => dispatch_of_claimed n k c h, fun s a l h => ?_, fun s h => ?_,
    fun s u n k c h hv hn hw hx hm => ?_⟩
  · simp only [hostClaims, h]
  · obtain h | h := h <;> simp only [hostClaims, h]
  · intro t
    have ht : t = ((handlerState u).setSReg .cs (vectorSel u n)).setIP (vectorOff u n) :=
      dispatch_of_executable k c h hv hn hw hx
    obtain ⟨-, -, -, -, hk, hp, hb⟩ := framePushed_frame u
    obtain ⟨h0, h2, h4⟩ := stacked_handlerState hm
    rw [ht]
    exact ⟨handlerState_regs u, rfl, rfl, rfl, h0, h2, h4, hb, hk, hp rfl, rfl⟩

/-- Settles O10. -/
theorem fatalDispatches : Obligations.FatalDispatches := by
  refine ⟨fun s u n k c h => dispatch_of_claimed n k c h, fun s u n k c h => ?_⟩
  refine ⟨fun hv h0 h2 => dispatch_of_null_vector k c h hv h0 h2, fun j f hj hr hf => ?_,
    fun hv hn j v f t hv' hp hf => ?_, fun hv hn hw hx => ?_⟩
  · exact dispatch_of_refused_vector k c h (readVector_of_refused hj hr hf)
  · have raised : enterHandler (vectorOff u n) (vectorSel u n) u = .raise f t := by
      rw [enterHandler_eq, pushList_of_refused (l := frameWords u) hv' hp hf, Res.bind_raise]
    obtain ⟨hs, hi⟩ := pushRefused_keeps hf
    obtain ⟨hs', hi'⟩ := pushedAll_keeps ((frameWords u).take j) u
    exact (dispatch_of_raised k c h hv hn raised).trans (stopFatal_of_keeps (hs.trans hs') (hi.trans hi') _ _ _ _)
  · have raised : enterHandler (vectorOff u n) (vectorSel u n) u =
        .raise (.nonExecutableSegment (vectorSel u n)) (handlerState u) := by
      rw [enterHandler_of_frameWritable _ _ hw]
      exact jumpFar_of_not_executable (s := handlerState u) _ hx
    intro t
    have ht : t = { handlerState u with
        fatal := some ⟨.dispatchFault (.nonExecutableSegment (vectorSel u n)), n, k, c, u.sregs.cs, u.ipStart⟩ } :=
      (dispatch_of_raised k c h hv hn raised).trans
        (stopFatal_of_keeps (handlerState_sregs u) (handlerState_ipStart u) _ _ _ _)
    obtain ⟨-, -, -, -, hk, hp, hb⟩ := framePushed_frame u
    clear_value t
    subst ht
    refine ⟨rfl, handlerState_sregs u, rfl, handlerState_regs u, rfl, fun hm => ?_, hk, hp rfl, rfl⟩
    obtain ⟨h0, h2, h4⟩ := stacked_handlerState hm
    exact ⟨(stacked_fatal _ _ _).trans h0, (stacked_fatal _ _ _).trans h2, (stacked_fatal _ _ _).trans h4, hb⟩

end Sys2Proof.Machine
end

section
/-! Returns undo calls and interrupts (48 section 7, 60 section 3). -/

namespace Sys2Proof.Machine
open Claims

/-- The state a near CALL leaves: the return offset pushed, the operand cache and IP whatever they are. -/
def calledNear (s : State) (d : OperandCache) (target : Word) : State := (pushed s.ip { s with doc := d }).setIP target

/-- The state a far CALL leaves. -/
def calledFar (s : State) (d : OperandCache) (sel off : Word) : State :=
  ((pushed s.ip (pushed s.sregs.cs { s with doc := d })).setSReg .cs sel).setIP off

/-- `u` is the machine of before the call, but for SP higher by `n`. -/
def Returned (s u : State) (n : Word) : Prop :=
  u.ip = s.ip ∧ u.regs = { s.regs with sp := s.regs.sp + n } ∧ u.sregs = s.sregs ∧ u.fe = s.fe

theorem Returned.zero {s u : State} (h : Returned s u 0) :
    u.ip = s.ip ∧ u.regs = s.regs ∧ u.sregs = s.sregs ∧ u.fe = s.fe := by
  obtain ⟨hi, hr, hs, hf⟩ := h
  exact ⟨hi, hr.trans (congrArg (fun v => { s.regs with sp := v }) (BitVec.add_zero s.regs.sp)), hs, hf⟩

theorem calledNear_of_exec {i : Instr} {s t : State} (hc : nearCall i s) (hp : canPush s) (he : exec i s = .next t) :
    ∃ d target, t = calledNear s d target := by
  obtain ⟨rel, rfl⟩ | ⟨rm, rfl, hf, hr⟩ := hc
  · have h : exec (.callRel16 rel) s = .next (calledNear s s.doc (s.ip + rel)) :=
      congrArg Res.outcome (callNear_of_canPush _ hp)
    exact ⟨_, _, Host.Outcome.next.inj (he.symm.trans h)⟩
  · have h := (exec_callRm16 hf hr).trans
      (congrArg Res.outcome (callNear_of_canPush (s := opened (modrm16 2 rm) s) _ hp))
    exact ⟨(opened (modrm16 2 rm) s).doc, operand16 s rm, Host.Outcome.next.inj (he.symm.trans h)⟩

theorem calledFar_of_exec {i : Instr} {s t : State} (hc : farCall i s) (ho : farFrameOpen s) (he : exec i s = .next t) :
    ∃ d sel off, t = calledFar s d sel off := by
  obtain ⟨h2, h4, -, -⟩ := ho
  obtain ⟨off, sel, rfl, hx⟩ | ⟨m, rfl, hf, hp, hx⟩ := hc
  · have h : exec (.callFarDirect off sel) s = .next (calledFar s s.doc sel off) :=
      congrArg Res.outcome (callFar_of_canPush off hx h2 h4)
    exact ⟨_, _, _, Host.Outcome.next.inj (he.symm.trans h)⟩
  · have h := (exec_callFarMem hf hp).trans
      (congrArg Res.outcome (callFar_of_canPush (s := opened (modrmMem 3 m) s) _ hx h2 h4))
    exact ⟨(opened (modrmMem 3 m) s).doc, pairHigh s m, pairLow s m, Host.Outcome.next.inj (he.symm.trans h)⟩

theorem returnNear_calledNear {s : State} (hw : s.mem.wf) (hr : readable16 s s.sregs.ss (s.regs.sp - 2))
    (d : OperandCache) (target n : Word) :
    ∃ u, (returnNear n (calledNear s d target)).outcome = .next u ∧ Returned s u n := by
  have pop : canPop (calledNear s d target) 0 := by
    rw [canPop_zero]
    exact hr
  have ip : stacked (calledNear s d target) 0 = s.ip := stacked_pushed_zero (s := { s with doc := d }) hw s.ip
  rw [returnNear_of_canPop n pop, ip]
  refine ⟨_, rfl, rfl, ?_, rfl, rfl⟩
  exact congrArg (fun v => { s.regs with sp := v }) (show s.regs.sp - 2 + 2 + n = s.regs.sp + n by bv_omega)

theorem returnFar_calledFar {s : State} (hw : s.mem.wf) (ho : farFrameOpen s)
    (hx : s.bus.isExecutable s.sregs.cs = true)
    (d : OperandCache) (sel off n : Word) :
    ∃ u, (returnFar n (calledFar s d sel off)).outcome = .next u ∧ Returned s u n := by
  obtain ⟨-, -, r2, r4⟩ := ho
  let a := pushed s.sregs.cs { s with doc := d }
  have ha : a.mem.wf := State.putWord_wf (s := { s with doc := d }) hw _ _ _
  have pop0 : canPop (calledFar s d sel off) 0 := by
    rw [canPop_zero]
    change readable16 s s.sregs.ss (s.regs.sp - 2 - 2)
    rwa [sub_two_sub_two]
  have pop2 : canPop (calledFar s d sel off) 2 := by
    change readable16 s s.sregs.ss (s.regs.sp - 2 - 2 + 2)
    rwa [BitVec.sub_add_cancel]
  have ip : stacked (calledFar s d sel off) 0 = s.ip := stacked_pushed_zero (s := a) ha s.ip
  have cs : stacked (calledFar s d sel off) 2 = s.sregs.cs :=
    (stacked_pushed_add_two (s := a) (k := 0) (by decide) s.ip).trans
      (stacked_pushed_zero (s := { s with doc := d }) hw s.sregs.cs)
  rw [returnFar_of_canPop n pop0 pop2 (by rw [cs]; exact hx), ip, cs]
  refine ⟨_, rfl, rfl, ?_, rfl, rfl⟩
  exact congrArg (fun v => { s.regs with sp := v }) (show s.regs.sp - 2 - 2 + 4 + n = s.regs.sp + n by bv_omega)

/-- An interrupting instruction dispatches its vector when no debugger asks. -/
theorem exec_of_interrupts {i : Instr} {s : State} {n : Byte} (hi : interrupts i s n) (hd : s.hooks.debug = none) :
    exec i s = .next (dispatch n .software none s) := by
  obtain rfl | ⟨rfl, rfl⟩ | ⟨rfl, ho, rfl⟩ := hi
  · exact congrArg Host.Outcome.next (softwareInterrupt_of_no_answer (.inl hd) _)
  · exact congrArg Host.Outcome.next (softwareInterrupt_of_no_answer (.inl hd) _)
  · rw [exec_into_of_overflow ho, softwareInterrupt_of_no_answer (.inl hd)]

theorem hostClaims_of_no_hook {s : State} (h : s.hooks.hostInt = none) : hostClaims s = (false, s) := by
  simp only [hostClaims, h]

/-- The state a handler starts in: its frame on the stack, CS and IP its own. -/
def handlerEntered (s : State) (sel off : Word) : State := ((handlerState s).setSReg .cs sel).setIP off

theorem returnFromInterrupt_handlerEntered {s : State} (hw : s.mem.wf) (hr : frameReadable s)
    (hx : s.bus.isExecutable s.sregs.cs = true) (hp : s.params.flagsFixedOnes &&& 0x0FD5 = 0) (sel off : Word) :
    ∃ u, (returnFromInterrupt (handlerEntered s sel off)).outcome = .next u ∧ u.ip = s.ip ∧ u.regs = s.regs ∧
      u.sregs = s.sregs ∧ sameFlags s.fe u.fe := by
  obtain ⟨r2, r4, r6⟩ := hr
  have pop (k x : Word) (e : s.regs.sp - 2 - 2 - 2 + k = x) (h : readable16 s s.sregs.ss x) :
      canPop (handlerEntered s sel off) k := by
    subst e
    exact h
  have p0 := pop 0 _ (by bv_omega) r6
  have p2 := pop 2 _ (by bv_omega) r4
  have p4 := pop 4 _ (by bv_omega) r2
  obtain ⟨h0, h2, h4⟩ := stacked_handlerState hw
  have e0 : stacked (handlerEntered s sel off) 0 = s.ip := h0
  have e2 : stacked (handlerEntered s sel off) 2 = s.sregs.cs := h2
  have e4 : stacked (handlerEntered s sel off) 4 = flagsImage16 s.params s.fe := h4
  rw [returnFromInterrupt_of_canPop p0 p2 p4 (by rw [e2]; exact hx), e0, e2, e4]
  refine ⟨_, rfl, rfl, ?_, rfl, setFlags16_flagsImage16 hp _ _⟩
  exact congrArg (fun v => { s.regs with sp := v }) (show s.regs.sp - 2 - 2 - 2 + 6 = s.regs.sp by bv_omega)

/-- Settles O12. -/
theorem returnsUndoCalls : Obligations.ReturnsUndoCalls := by
  refine ⟨fun s t i n hw hp hr hc he => ?_, fun s t i n hw ho hx hc he => ?_,
    fun s t i n hw hd hh hv hn hfw hfr hx hcs hp hi he => ?_⟩
  · obtain ⟨d, target, rfl⟩ := calledNear_of_exec hc hp he
    obtain ⟨u, hu, back⟩ := returnNear_calledNear hw hr d target 0
    exact ⟨⟨u, hu, back.zero⟩, returnNear_calledNear hw hr d target n⟩
  · obtain ⟨d, sel, off, rfl⟩ := calledFar_of_exec hc ho he
    obtain ⟨u, hu, back⟩ := returnFar_calledFar hw ho hx d sel off 0
    exact ⟨⟨u, hu, back.zero⟩, returnFar_calledFar hw ho hx d sel off n⟩
  · have entered : t = handlerEntered s (vectorSel s n) (vectorOff s n) :=
      Host.Outcome.next.inj (he.symm.trans ((exec_of_interrupts hi hd).trans
        (congrArg _ (dispatch_of_executable _ _ (hostClaims_of_no_hook hh) hv hn hfw hx))))
    subst entered
    exact returnFromInterrupt_handlerEntered hw hfr hcs hp _ _

end Sys2Proof.Machine
end

section
/-! The host's calls, reset, and the steps that fetch nothing (10_state section 8, 60 sections 3 to 5, 70 section 2). -/

namespace Sys2Proof.Machine
open Claims

/-! ### Faults and reset -/

/-- Settles O11: the parameters' defaults are the vectors and the rewinds of the table. -/
theorem faultVectorsAndRewind : Obligations.FaultVectorsAndRewind := by
  intro s sel hp
  have handled (f : CpuFault) (hr : faultRewinds defaultParams f = true) :
      handleFault f s = dispatch (faultVector defaultParams f) .fault (some f) (s.setIP s.ipStart) := by
    rw [handleFault, hp, hr, if_pos rfl]
  exact ⟨handled _ rfl, handled _ rfl, handled _ rfl, handled _ rfl, handled _ rfl, handled _ rfl⟩

theorem hostReset_launched (s : State) : launched s.launch s.hostReset := by
  simp [launched, State.hostReset]

/-- The launch image at its default has the reset values, whatever the host's settings and the count of draws. -/
theorem resetLike_of_default {s : State} (h : s.launch = defaultLaunch) : resetLike s.hostReset := by
  have image : flagsImage16 s.params { defaultLaunch.fe with draws := s.fe.draws } = s.params.flagsFixedOnes := by
    simp [flagsImage16, flagBit, defaultLaunch]
  simp only [resetLike, State.hostReset, h]
  exact ⟨rfl, rfl, rfl, rfl, rfl, rfl, rfl, rfl, rfl, rfl, rfl, rfl, rfl, rfl, image, rfl, rfl,
    rfl, rfl, rfl, rfl, rfl, rfl, rfl⟩

/-- Settles O15. -/
theorem resetValues : Obligations.ResetValues :=
  ⟨fun s => ⟨hostReset_launched s, resetLike_of_default, rfl, rfl, rfl, rfl, rfl, rfl, rfl, rfl⟩, rfl,
    resetLike_of_default (s := State.reset) rfl, by decide⟩

/-! ### Fatal and halted machines -/

theorem wake_of_not_woken {s : State} (h : s.params.haltWakeOnIrq = false ∨ s.fe.if_ = false ∨ s.pending = none) :
    wake s = s := by
  obtain h | h | h := h <;> simp [wake, h]

theorem wake_of_woken {s : State} {n : Byte} (hw : s.params.haltWakeOnIrq = true) (hi : s.fe.if_ = true)
    (hp : s.pending = some n) :
    wake s = dispatch n .hardware none { s.callbackAbort with halted := false, pending := none } := by
  simp only [wake, hw, hi, hp, Option.isSome_some, Bool.and_self, if_true]
  exact interruptCheck_of_pending (s := { s.callbackAbort with halted := false }) hp hi

theorem step_of_halted {s : State} (hf : s.fatal = none) (hh : s.halted = true) : step s = .next (wake s) := by
  simp only [step, hf, hh, if_true]

/-- Settles O8. -/
theorem fatalAndHaltedSteps : Obligations.FatalAndHaltedSteps := by
  refine ⟨fun s r h => ?_, fun s hf hh h => ?_, fun s n hf hh hw hi hp => ?_⟩
  · simp only [step, h]
  · rw [step_of_halted hf hh, wake_of_not_woken h]
  · rw [step_of_halted hf hh, wake_of_woken hw hi hp]

/-! ### Run -/

theorem run_of_fatal {s : State} {r : FatalReason} (n : Nat) (h : s.fatal = some r) : run n s = (.fatal r, s) := by
  simp only [run, h]

theorem run_of_running {s : State} (n : Nat) (hf : s.fatal = none) (hh : s.halted = false) :
    run n s = runLoop n { s with budget := n } := by
  simp only [run, hf, hh, Bool.false_eq_true, if_false]

theorem run_of_fatal_wake {n : Nat} {s t : State} {r : FatalReason} (hf : s.fatal = none) (hh : s.halted = true)
    (hw : wake { s with budget := n } = t) (hr : t.fatal = some r) : run n s = (.fatal r, t) := by
  subst hw
  unfold run
  split
  · rename_i e; cases hf.symm.trans e
  · dsimp only
    rw [if_pos hh, hr]

theorem run_of_wake {n : Nat} {s t : State} (hf : s.fatal = none) (hh : s.halted = true)
    (hw : wake { s with budget := n } = t) (hr : t.fatal = none) : run n s = runLoop n t := by
  subst hw
  unfold run
  split
  · rename_i e; cases hf.symm.trans e
  · dsimp only
    rw [if_pos hh, hr]

theorem runLoop_of_halted {s : State} (n : Nat) (h : s.halted = true) : runLoop n s = (.halted, s) := by
  rw [runLoop.eq_def]
  exact if_pos h

theorem runLoop_zero {s : State} (h : s.halted = false) : runLoop 0 s = (.budgetExhausted, s) := by
  simp only [runLoop, h, Bool.false_eq_true, if_false]

theorem runLoop_of_abort {s : State} (n : Nat) (hh : s.halted = false) (ha : s.abortRequested = true) :
    runLoop (n + 1) s = (.aborted, { s with abortRequested := false }) := by
  simp only [runLoop, hh, ha, Bool.false_eq_true, if_false, if_true]

theorem runLoop_of_stopped {s u : State} (n : Nat) (hh : s.halted = false) (ha : s.abortRequested = false)
    (hd : debugContinues s = (false, u)) : runLoop (n + 1) s = (.debuggerStop, u) := by
  simp only [runLoop, hh, ha, hd, Bool.false_eq_true, if_false]

theorem runLoop_of_step {s u t : State} (n : Nat) (hh : s.halted = false) (ha : s.abortRequested = false)
    (hd : debugContinues s = (true, u)) (ht : step u = .next t) : runLoop (n + 1) s = afterStep n t := by
  simp only [runLoop, hh, ha, hd, ht, Bool.false_eq_true, if_false]
  cases h : t.fatal <;> simp only [afterStep, h]

theorem debugContinues_of_no_answer {s : State} (h : s.hooks.debug = none ∨ ∃ l, s.hooks.debug = some ⟨[], l⟩) :
    debugContinues s = (true, s) := by
  obtain h | ⟨l, h⟩ := h <;> simp only [debugContinues, h]

theorem debugContinues_of_answer {s : State} {a : HookAnswer} {l c : List HookAnswer}
    (h : s.hooks.debug = some ⟨a :: l, c⟩) :
    debugContinues s = (a.yes, applyWrites a.writes { s with hooks := { s.hooks with debug := some ⟨l, c⟩ } }) := by
  simp only [debugContinues, h]

/-! ### An abort request made in a slot stands -/

/-- No hook is asked, an abort request stands, and the script of callbacks and the budget are the given ones. -/
def AbortStands (l : List Bool) (b : Nat) (s : State) : Prop :=
  s.hooks.debug = none ∧ s.hooks.hostInt = none ∧ s.abortRequested = true ∧ s.callbackAborts = l ∧ s.budget = b

section
variable {l : List Bool} {b : Nat}

theorem abortStands_stable : Stable (AbortStands l b) where
  put _ _ _ _ h := h
  regs _ _ h := h
  sregs _ _ h := h
  ip _ _ h := h
  ports _ _ h := h
  doc _ _ h := h

theorem AbortStands.keepsMachinery {s t : State} (h : AbortStands l b s) (hk : KeepsMachinery s t) :
    AbortStands l b t := by
  obtain ⟨-, -, -, -, -, -, hb, ha, -, -, -, hh, hc, -⟩ := hk
  obtain ⟨debug, hostInt, abort, script, budget⟩ := h
  exact ⟨by rw [hh]; exact debug, by rw [hh]; exact hostInt, ha.trans abort, hc.trans script, hb.trans budget⟩

theorem AbortStands.dispatch {s : State} (h : AbortStands l b s) (n k c) : AbortStands l b (dispatch n k c s) :=
  h.keepsMachinery (dispatch_machinery (s := s) (G := fun _ => True) (fun _ h => h) h.2.1 n k c
    ⟨by simp [KeepsMachinery, sameMachinery], trivial⟩).1

theorem AbortStands.handleFault {s : State} (h : AbortStands l b s) (f : CpuFault) :
    AbortStands l b (handleFault f s) := by
  unfold Machine.handleFault
  split
  · exact AbortStands.dispatch (s := s.setIP s.ipStart) h _ _ _
  · exact h.dispatch _ _ _

theorem AbortStands.exec {i : Instr} {s t : State} (h : AbortStands l b s) (e : exec i s = .next t) :
    AbortStands l b t := by
  obtain ⟨hd, hi, ha, hc, hb⟩ := h
  obtain ⟨-, -, hh, hc', -, -, -, hb', ha', -⟩ := whatNoInstructionChanges i s t hd hi e
  exact ⟨by rw [hh, hd], by rw [hh, hi], ha'.trans ha, hc'.trans hc, hb'.trans hb⟩

theorem AbortStands.afterFetch {rest : State → Out}
    (hr : ∀ {s t : State}, AbortStands l b s → rest s = .next t → AbortStands l b t) {i : Instr} {s t : State}
    (h : AbortStands l b s) (e : afterFetch rest i s = .next t) : AbortStands l b t := by
  unfold Machine.afterFetch at e
  split at e
  · split at e
    · rename_i u eu; exact hr (h.exec eu) e
    · cases e
    · cases e
  · exact h.exec e

theorem AbortStands.popCS {s t : State} (h : AbortStands l b s) (e : (popSReg .cs s).outcome = .next t) :
    AbortStands l b t := by
  have hk : Kept (MachineryAnd s fun _ => True) fun _ => True :=
    machineryAnd_kept (fun _ h => h) h.1 h.2.1 fun _ _ h _ => h
  have hs : MachineryAnd s (fun _ => True) s := ⟨by simp [KeepsMachinery, sameMachinery], trivial⟩
  exact h.keepsMachinery (hk.outcome (popSReg_all hk _ hs) e).1

theorem AbortStands.slotBody (n : Nat) :
    ∀ {s t : State}, AbortStands l b s → slotBody n s = .next t → AbortStands l b t := by
  induction n with
  | zero => intro s t _ e; cases e
  | succ n ih =>
    intro s t h e
    have hf := fetchInstr_all abortStands_stable h
    unfold Machine.slotBody at e
    split at e
    · rename_i ef; rw [ef] at hf; cases e; exact hf.handleFault _
    · rename_i ef; rw [ef] at hf; exact hf.afterFetch ih e
    · rename_i ef; rw [ef] at hf; exact hf.popCS e
    · cases e

theorem AbortStands.endSlot {s : State} (h : AbortStands l b s) : AbortStands l b (endSlot s) := by
  unfold Machine.endSlot interruptCheck
  split
  · exact h
  split
  · split
    · exact AbortStands.dispatch (s := { s with pending := none }) h _ _ _
    · exact h
  · exact h

theorem AbortStands.runSlot {s t : State} (h : AbortStands l b (beginSlot s)) (e : runSlot s = .next t) :
    AbortStands l b t := by
  unfold Machine.runSlot at e
  split at e
  · rename_i u eu; cases e; exact (h.slotBody _ eu).endSlot
  · cases e
  · cases e

end

/-- Settles O14. -/
theorem hostCallsAndRun : Obligations.HostCallsAndRun := by
  refine ⟨fun n s h => ?_, fun n m s h => ?_, fun _ _ => rfl, fun _ => ⟨rfl, rfl⟩, fun _ _ _ _ => ⟨rfl, rfl⟩,
    fun n s r h => run_of_fatal n h, fun n s hf hh h => ?_, fun n v s hf hh hw hi hp => ?_, fun s hf hh => ?_,
    fun n s hf hh ha => ?_, fun n s hr => ⟨fun hd t ht => ?_, fun a l c hd => ⟨fun ha => ?_, fun ha t ht => ?_⟩⟩,
    fun n s t l hr hd hh hl ht => ?_⟩
  · simp only [State.raiseHardwareInterrupt, h]
  · cases hp : s.params.pendingPolicy <;> simp only [State.raiseHardwareInterrupt, h, hp]
  · have hw : wake { s with budget := n } = { s with budget := n } := wake_of_not_woken h
    exact (run_of_wake hf hh hw hf).trans (runLoop_of_halted n hh)
  · have hw : wake { s with budget := n } = _ := wake_of_woken (s := { s with budget := n }) hw hi hp
    exact ⟨fun r hr => run_of_fatal_wake hf hh hw hr, fun hr => run_of_wake hf hh hw hr⟩
  · rw [run_of_running 0 hf hh]
    exact runLoop_zero hh
  · rw [run_of_running _ hf hh]
    exact runLoop_of_abort n hh ha
  · obtain ⟨hf, hh, ha⟩ := hr
    rw [run_of_running _ hf hh]
    exact runLoop_of_step n hh ha (debugContinues_of_no_answer hd) ht
  · obtain ⟨hf, hh, ha'⟩ := hr
    rw [run_of_running _ hf hh]
    have hd' := debugContinues_of_answer (s := { s with budget := n + 1 }) hd
    exact runLoop_of_stopped n hh ha' (hd'.trans (congrArg (·, _) ha))
  · obtain ⟨hf, hh, ha'⟩ := hr
    rw [run_of_running _ hf hh]
    have hd' := debugContinues_of_answer (s := { s with budget := n + 1 }) hd
    exact runLoop_of_step n hh ha' (hd'.trans (congrArg (·, _) ha)) ht
  · obtain ⟨hf, hha, ha⟩ := hr
    have looped : runLoop (n + 2) { s with budget := n + 2 } = afterStep (n + 1) t :=
      runLoop_of_step (n + 1) hha ha (debugContinues_of_no_answer (.inl hd)) ht
    rw [run_of_running _ hf hha, looped]
    have ht' : runSlot { s with budget := n + 2 } = .next t :=
      (step_of_running (s := { s with budget := n + 2 }) hf hha).symm.trans ht
    have begun : AbortStands l (n + 2) (beginSlot { s with budget := n + 2 }) := by
      refine ⟨hd, hh, ?_, ?_, rfl⟩ <;> simp [beginSlot, State.callbackAbort, hl]
    obtain ⟨-, -, hab, hcb, hb⟩ := begun.runSlot ht'
    refine ⟨hab, hcb, fun hf' hh' => ?_⟩
    rw [afterStep, hf', hb]
    exact runLoop_of_abort n hh' hab

end Sys2Proof.Machine
end

section
/-! PUSH, POP, PUSHA and POPA (47 sections 1 to 4). -/

namespace Sys2Proof.Machine
open Claims

/-! ### Pushes in a row -/

/-- Words pushed one after another change SP and memory alone. -/
theorem pushedAll_eq (l : List Word) (s : State) :
    pushedAll l s =
      { s with
        regs := { s.regs with sp := s.regs.sp - BitVec.ofNat 16 (2 * l.length) }
        mem := (pushedAll l s).mem } := by
  induction l generalizing s with
  | nil => exact congrArg (fun v => { s with regs := { s.regs with sp := v } }) (BitVec.sub_zero s.regs.sp).symm
  | cons v l ih =>
    refine (ih (pushed v s)).trans ?_
    rw [List.length_cons, sub_two_mul_succ]
    rfl

theorem pushedAll_wf {l : List Word} {s : State} (h : s.mem.wf) : (pushedAll l s).mem.wf := by
  induction l generalizing s with
  | nil => exact h
  | cons v l ih => exact ih (s := pushed v s) (State.putWord_wf h _ _ _)

/-- The words above stay, further from the stack pointer by what was pushed. -/
theorem stacked_pushedAll {l : List Word} {s : State} {k : Nat} (hk : k + 2 * l.length < 0xFFFD) :
    stacked (pushedAll l s) (BitVec.ofNat 16 (k + 2 * l.length)) = stacked s (BitVec.ofNat 16 k) := by
  induction l generalizing s k with
  | nil => rfl
  | cons v l ih =>
    rw [List.length_cons] at hk ⊢
    rw [show k + 2 * (l.length + 1) = k + 2 + 2 * l.length by omega]
    refine (ih (s := pushed v s) (by omega)).trans ?_
    rw [BitVec.ofNat_add]
    exact stacked_pushed_add_two (by rw [BitVec.toNat_ofNat]; omega) v

theorem framedBy_pushedAll {s t : State} {f : Reach} {stored : List Nat} {l : List Word} (h : framedBy s t f stored)
    (hr : Reg16.sp ∈ f.regs) (hs : t.sregs.ss = s.sregs.ss)
    (ha : ∀ k < l.length, wordCells s s.sregs.ss (t.regs.sp - BitVec.ofNat 16 (2 * (k + 1))) ⊆ stored) :
    framedBy s (pushedAll l t) f stored := by
  induction l generalizing t with
  | nil => exact h
  | cons v l ih =>
    refine ih (t := pushed v t) (framedBy_pushed h hr hs rfl (ha 0 (Nat.succ_pos _)) v) hs fun k hk => ?_
    have hc := ha (k + 1) (Nat.succ_lt_succ hk)
    rw [sub_two_mul_succ] at hc
    exact hc

/-! ### Pops in a row -/

/-- Words popped into registers, one after another, or discarded. -/
def popList : List (Option Reg16) → State → Res Unit
  | [], s => .done s
  | some r :: l, s => (popReg r s).bind fun _ s => popList l s
  | none :: l, s => (pop16 s).bind fun _ s => popList l s

theorem Res.bind_done_unit (r : Res Unit) : (r.bind fun _ s => .done s) = r := by
  cases r <;> rfl

theorem popAll_eq (s : State) : popAll s = popList popaOrder s := by
  simp only [popAll, popaOrder, popList, Res.bind_done_unit]

/-- One pop of the row, into a register or not. -/
def poppedOne : Option Reg16 → State → State
  | some r, s => (s.setSP (s.regs.sp + 2)).setReg16 r (stacked s 0)
  | none, s => s.setSP (s.regs.sp + 2)

theorem poppedAll_cons (o : Option Reg16) (l : List (Option Reg16)) (s : State) :
    poppedAll (o :: l) s = poppedAll l (poppedOne o s) := by
  cases o <;> rfl

theorem popReg_of_canPop {s : State} (r : Reg16) (h : canPop s 0) :
    popReg r s = .ok () ((s.setSP (s.regs.sp + 2)).setReg16 r (stacked s 0)) := by
  rw [popReg, pop16_of_canPop h]
  rfl

theorem popList_of_canPop {s : State} (o : Option Reg16) (l : List (Option Reg16)) (h : canPop s 0) :
    popList (o :: l) s = popList l (poppedOne o s) := by
  cases o with
  | none => rw [popList, pop16_of_canPop h]; rfl
  | some r => rw [popList, popReg_of_canPop r h]; rfl

theorem popList_of_first_refused {s : State} {f : CpuFault} (o : Option Reg16) (l : List (Option Reg16))
    (h : wordReadRefused s s.sregs.ss s.regs.sp f) : popList (o :: l) s = .raise f s := by
  cases o with
  | none => rw [popList, pop16_of_refused h]; rfl
  | some r => rw [popList, popReg, pop16_of_refused h]; rfl

theorem poppedOne_sp {o : Option Reg16} (s : State) (h : o ≠ some .sp) : (poppedOne o s).regs.sp = s.regs.sp + 2 := by
  cases o with
  | none => rfl
  | some r => exact State.reg16_setReg16_of_ne _ _ fun e => h (congrArg some e.symm)

theorem canPop_poppedOne {o : Option Reg16} {s : State} {i : Nat} (ho : o ≠ some .sp)
    (h : canPop s (BitVec.ofNat 16 (2 * (i + 1)))) : canPop (poppedOne o s) (BitVec.ofNat 16 (2 * i)) := by
  have hsp : (poppedOne o s).regs.sp + BitVec.ofNat 16 (2 * i) = s.regs.sp + BitVec.ofNat 16 (2 * (i + 1)) := by
    rw [poppedOne_sp s ho, show 2 * (i + 1) = 2 * i + 2 by omega, BitVec.ofNat_add]
    bv_omega
  rw [canPop, hsp]
  cases o <;> exact h

theorem popList_of_canPopAll {l : List (Option Reg16)} {s : State} (hl : some .sp ∉ l)
    (h : ∀ i < l.length, canPop s (BitVec.ofNat 16 (2 * i))) : popList l s = .ok () (poppedAll l s) := by
  induction l generalizing s with
  | nil => rfl
  | cons o l ih =>
    obtain ⟨ho, hl⟩ := not_or.mp (mt List.mem_cons.mpr hl)
    rw [popList_of_canPop o l (h 0 (Nat.succ_pos _)), poppedAll_cons]
    exact ih hl fun i hi => canPop_poppedOne (Ne.symm ho) (h (i + 1) (Nat.succ_lt_succ hi))

/-- A pop refused after `k` others: the earlier registers are loaded, SP past them (60 R651). -/
theorem popList_of_refused {l : List (Option Reg16)} {s : State} {k : Nat} {f : CpuFault} (hl : some .sp ∉ l)
    (hk : k < l.length) (h : ∀ i < k, canPop s (BitVec.ofNat 16 (2 * i)))
    (hf : let u := poppedAll (l.take k) s; wordReadRefused u u.sregs.ss u.regs.sp f) :
    popList l s = .raise f (poppedAll (l.take k) s) := by
  induction l generalizing s k with
  | nil => exact absurd hk (Nat.not_lt_zero _)
  | cons o l ih =>
    cases k with
    | zero => exact popList_of_first_refused o l hf
    | succ k =>
      obtain ⟨ho, hl⟩ := not_or.mp (mt List.mem_cons.mpr hl)
      rw [List.take_succ_cons, poppedAll_cons] at hf ⊢
      rw [popList_of_canPop o l (h 0 (Nat.succ_pos _))]
      exact ih hl (Nat.lt_of_succ_lt_succ hk)
        (fun i hi => canPop_poppedOne (Ne.symm ho) (h (i + 1) (Nat.succ_lt_succ hi))) hf

/-- What POPA leaves (47 R491). -/
theorem poppedAll_popaOrder (s : State) :
    poppedAll popaOrder s =
      { s with
        regs := ⟨stacked s 14, stacked s 12, stacked s 10, stacked s 8, s.regs.sp + 16, stacked s 4, stacked s 2,
          stacked s 0⟩ } := by
  simp only [popaOrder, poppedAll, stacked, State.setSP, State.setReg16, Regs.set16, State.wordAt, State.byteAt,
    BitVec.add_assoc]
  rfl

/-! ### Single pushes and pops -/

theorem pushedValue_eq (r : Reg16) (s : State) : pushedValue r s = pushValue r s := by
  cases r <;> simp [pushedValue, pushValue, State.reg16, Regs.get16]

/-- The value a PUSH r/m16 writes (47 R484). -/
def pushSource (s : State) : Rm Reg16 → Word
  | .reg r => pushValue r s
  | .mem e => operand16 s (.mem e)

theorem pushRm_of_canRead {s : State} {rm : Rm Reg16} (hf : fresh s) (hr : canRead16 s rm) (hp : canPush s) :
    pushRm (modrm16 6 rm) s =
      .ok () (pushed (pushSource s rm) (opened (modrm16 6 rm) s)) := by
  have push (v : Word) := push16_of_canPush (s := opened (modrm16 6 rm) s) v hp
  rw [pushRm, readEA16_of_canRead 6 hf hr, Res.bind_ok, push]
  cases rm with
  | mem e => rfl
  | reg r =>
    have value : pushedEA (operand16 s (.reg r)) (opened (modrm16 6 (.reg r)) s) = pushedValue r s := by
      have num : Reg16.ofNum (opened (modrm16 6 (.reg r)) s).doc.rm = r :=
        (congrArg Reg16.ofNum (cache16_reg 6 r s).2).trans (Reg16.ofNum_num r)
      rw [pushedEA, num]
      rfl
    rw [value, pushedValue_eq, pushSource]

/-- A POP r/m16 that pops decodes its address first, and writes after SP is raised (47 R487). -/
theorem popRm_of_canPop {s : State} {rm : Rm Reg16} (hf : fresh s) (hp : canPop s 0) :
    popRm (modrm16 0 rm) s =
      writeEA16 (modrm16 0 rm) (stacked s 0) ((opened (modrm16 0 rm) s).setSP (s.regs.sp + 2)) := by
  have pop := pop16_of_canPop (s := opened (modrm16 0 rm) s) hp
  rw [popRm, decodeModRM_opened hf, pop]
  rfl

theorem writeEA16_of_word_refused {s t u : State} {e : MemEA} {g : BitVec 3} {f : CpuFault} {v : Word}
    (h : Decoded (modrm16 g (.mem e)) s t) (hw : wordWriteRefused t (eaSeg s e) (eaOff s e) v f u) (m : ModRM) :
    writeEA16 m v t = .raise f u := by
  have mem : writeEA16 m v t = memWrite16 (eaSeg s e) (eaOff s e) v t := by
    have hd : decodeModRM m t = t := if_pos h.valid
    have hm : t.doc.isMem = true := by rw [h.doc]; rfl
    rw [writeEA16, hd, if_pos hm, h.doc]
    rfl
  rw [mem, memWrite16_of_refused hw]

/-- Settles O48. -/
theorem pushPopForms : Obligations.PushPopForms := by
  refine ⟨fun r s h => ?_, fun rm s hf hr hp => ?_, fun imm s h => ?_, fun imm s h => ?_, fun r s h => ?_,
    fun rm s hf hp hw => ?_, fun s h => ?_, fun s h => ?_, fun s t k v f hv hp hf => ?_, fun s k f hk hp hf => ?_,
    fun e s f hf => ⟨fun hr => ?_, fun t hp hw => ?_⟩⟩
  · rw [← pushedValue_eq]
    exact congrArg Res.outcome (push16_of_canPush _ h)
  · have push := congrArg Res.outcome (pushRm_of_canRead hf hr hp)
    cases rm <;> exact push
  · exact congrArg Res.outcome (push16_of_canPush _ h)
  · exact congrArg Res.outcome (push16_of_canPush _ h)
  · exact congrArg Res.outcome (popReg_of_canPop r h)
  · have write := writeEA16_of_canWrite (t := (opened (modrm16 0 rm) s).setSP (s.regs.sp + 2)) ⟨rfl, rfl⟩ hw
      (modrm16 0 rm) (stacked s 0)
    exact congrArg Res.outcome ((popRm_of_canPop hf hp).trans write)
  · exact congrArg Res.outcome (pushList_of_canPushAll (pushaWords s) fun i _ => ⟨h _, h _⟩)
  · rw [← poppedAll_popaOrder]
    exact congrArg Res.outcome ((popAll_eq s).trans (popList_of_canPopAll (by decide) fun i _ => ⟨h _, h _⟩))
  · exact congrArg Res.outcome (pushList_of_refused hv hp hf)
  · exact congrArg Res.outcome ((popAll_eq s).trans (popList_of_refused (by decide) hk hp hf))
  · have pop := pop16_of_refused (s := opened (modrm16 0 (.mem e)) s) hr
    change Res.outcome (popRm _ s) = _
    rw [popRm, decodeModRM_opened hf, pop]
    rfl
  · have write := writeEA16_of_word_refused (s := s) (t := (opened (modrm16 0 (.mem e)) s).setSP (s.regs.sp + 2))
      (g := 0) ⟨rfl, rfl⟩ hw (modrm16 0 (.mem e))
    exact congrArg Res.outcome ((popRm_of_canPop hf hp).trans write)

end Sys2Proof.Machine
end

section
/-! ENTER and LEAVE (47 section 5). -/

namespace Sys2Proof.Machine
open Claims

/-! ### The copied frame pointers -/

/-- The copies of ENTER push some words. -/
theorem framesCopied_eq_pushedAll (k : Nat) (bp : Word) (s : State) :
    ∃ l : List Word, l.length = k ∧ framesCopied k bp s = pushedAll l s := by
  induction k generalizing bp s with
  | zero => exact ⟨[], rfl, rfl⟩
  | succ k ih =>
    obtain ⟨l, hl, e⟩ := ih (bp - 2) (pushed (s.wordAt s.sregs.ss (bp - 2)) s)
    exact ⟨s.wordAt s.sregs.ss (bp - 2) :: l, congrArg (· + 1) hl, e⟩

theorem framesCopied_setReg16_bp (k : Nat) (bp v : Word) (s : State) :
    framesCopied k bp (s.setReg16 .bp v) = (framesCopied k bp s).setReg16 .bp v := by
  induction k generalizing bp s with
  | zero => rfl
  | succ k ih => exact ih (bp - 2) (pushed (s.wordAt s.sregs.ss (bp - 2)) s)

/-- ENTER's state after `j` copies from the state after its first push: the words pushed, BP lowered by 2 each time. -/
def copyDone (j : Nat) (s : State) : State :=
  (framesCopied j s.regs.bp s).setReg16 .bp (s.regs.bp - BitVec.ofNat 16 (2 * j))

/-- `j` copies can be made: each word read and pushed. -/
def CopiesOpen (s : State) (j : Nat) : Prop :=
  canPushAll s j ∧ ∀ i < j, readable16 s s.sregs.ss (s.regs.bp - BitVec.ofNat 16 (2 * (i + 1)))

theorem copyDone_zero (s : State) : copyDone 0 s = s :=
  congrArg (fun v => { s with regs := { s.regs with bp := v } }) (BitVec.sub_zero s.regs.bp)

/-- The state after the first copy, from which the rest goes on. -/
def copiedOne (s : State) : State :=
  (pushed (s.wordAt s.sregs.ss (s.regs.bp - 2)) s).setReg16 .bp (s.regs.bp - 2)

theorem copyDone_succ (j : Nat) (s : State) : copyDone (j + 1) s = copyDone j (copiedOne s) := by
  rw [copyDone, copyDone, sub_two_mul_succ, copiedOne, framesCopied_setReg16_bp]
  rfl

theorem copyFrames_succ {s : State} (m : Nat) (hp : canPush s) (hr : readable16 s s.sregs.ss (s.regs.bp - 2)) :
    copyFrames (m + 1) s = copyFrames m (copiedOne s) := by
  have read := memRead16_of_readable (s := s.setReg16 .bp (s.regs.bp - 2)) (seg := s.sregs.ss) hr
  have push (v : Word) := push16_of_canPush (s := s.setReg16 .bp (s.regs.bp - 2)) v hp
  change ((memRead16 s.sregs.ss (s.regs.bp - 2) (s.setReg16 .bp (s.regs.bp - 2))).bind _) = _
  rw [read, Res.bind_ok, push]
  rfl

theorem CopiesOpen.tail {s : State} {j : Nat} (h : CopiesOpen s (j + 1)) : CopiesOpen (copiedOne s) j := by
  obtain ⟨hp, hr⟩ := h
  have hb : (copiedOne s).regs.bp = s.regs.bp - 2 := rfl
  refine ⟨fun i hi => canPushAll_pushed (s.wordAt s.sregs.ss (s.regs.bp - 2)) hp i hi, fun i hi => ?_⟩
  have h := hr (i + 1) (Nat.succ_lt_succ hi)
  rw [sub_two_mul_succ] at h
  rw [hb]
  exact h

theorem CopiesOpen.head {s : State} {j : Nat} (h : CopiesOpen s (j + 1)) :
    canPush s ∧ readable16 s s.sregs.ss (s.regs.bp - 2) :=
  ⟨canPush_of_canPushAll h.1, h.2 0 (Nat.succ_pos j)⟩

theorem copyFrames_add {s : State} {j : Nat} (m : Nat) (h : CopiesOpen s j) :
    copyFrames (j + m) s = copyFrames m (copyDone j s) := by
  induction j generalizing s with
  | zero => rw [copyDone_zero, Nat.zero_add]
  | succ j ih =>
    obtain ⟨hp, hr⟩ := h.head
    rw [Nat.succ_add, copyFrames_succ _ hp hr, ih h.tail, copyDone_succ]

theorem copyFrames_of_copiesOpen {s : State} {j : Nat} (h : CopiesOpen s j) :
    copyFrames j s = .ok () (copyDone j s) := copyFrames_add 0 h

/-- What the copies change: SP, BP and memory. -/
theorem copyDone_sp (j : Nat) (s : State) : (copyDone j s).regs.sp = s.regs.sp - BitVec.ofNat 16 (2 * j) := by
  obtain ⟨l, rfl, e⟩ := framesCopied_eq_pushedAll j s.regs.bp s
  rw [copyDone, e, pushedAll_eq]
  rfl

theorem copyDone_sregs (j : Nat) (s : State) : (copyDone j s).sregs = s.sregs := by
  obtain ⟨l, rfl, e⟩ := framesCopied_eq_pushedAll j s.regs.bp s
  rw [copyDone, e, pushedAll_eq]
  rfl

theorem copyDone_bus (j : Nat) (s : State) : (copyDone j s).bus = s.bus := by
  obtain ⟨l, rfl, e⟩ := framesCopied_eq_pushedAll j s.regs.bp s
  rw [copyDone, e, pushedAll_eq]
  rfl

theorem copyDone_ip (j : Nat) (s : State) : (copyDone j s).ip = s.ip := by
  obtain ⟨l, rfl, e⟩ := framesCopied_eq_pushedAll j s.regs.bp s
  rw [copyDone, e, pushedAll_eq]
  rfl

theorem copyDone_wf (j : Nat) {s : State} (h : s.mem.wf) : (copyDone j s).mem.wf := by
  obtain ⟨l, rfl, e⟩ := framesCopied_eq_pushedAll j s.regs.bp s
  rw [copyDone, e]
  exact pushedAll_wf h

theorem stacked_copyDone {j k : Nat} (s : State) (hk : k + 2 * j < 0xFFFD) :
    stacked (copyDone j s) (BitVec.ofNat 16 (k + 2 * j)) = stacked s (BitVec.ofNat 16 k) := by
  obtain ⟨l, rfl, e⟩ := framesCopied_eq_pushedAll j s.regs.bp s
  rw [copyDone, e]
  exact stacked_pushedAll hk

theorem framedBy_copyDone {s t : State} {f : Reach} {stored : List Nat} {j : Nat} (h : framedBy s t f stored)
    (hr : Reg16.sp ∈ f.regs) (hb : Reg16.bp ∈ f.regs) (hs : t.sregs.ss = s.sregs.ss)
    (ha : ∀ k < j, wordCells s s.sregs.ss (t.regs.sp - BitVec.ofNat 16 (2 * (k + 1))) ⊆ stored) :
    framedBy s (copyDone j t) f stored := by
  obtain ⟨l, rfl, e⟩ := framesCopied_eq_pushedAll j t.regs.bp t
  rw [copyDone, e]
  exact framedBy_setReg16 (framedBy_pushedAll h hr hs ha) hb _

/-! ### ENTER -/

/-- The state once ENTER's first push is made and its `j` copies are. -/
def enterCopied (j : Nat) (s : State) : State := copyDone j (pushed s.regs.bp s)

/-- The state once ENTER has built its display: the copies, and for a level above 0 the new frame pointer pushed. -/
def enterDisplayed (l : Nat) (s : State) : State :=
  if l = 0 then enterCopied 0 s else pushed (s.regs.sp - 2) (enterCopied (l - 1) s)

/-- The end of ENTER: BP the frame, SP lowered by the size. -/
def enterDone (size frame : Word) (s : State) : State :=
  { s with regs := { s.regs with bp := frame, sp := s.regs.sp - size } }

theorem copiesOpen_pushed {s : State} {j : Nat} (h : copiesOpen s j) :
    canPush s ∧ CopiesOpen (pushed s.regs.bp s) j := by
  obtain ⟨hp, hr⟩ := h
  exact ⟨canPush_of_canPushAll hp, canPushAll_pushed _ hp, hr⟩

theorem enterCopied_sp (j : Nat) (s : State) : (enterCopied j s).regs.sp = s.regs.sp - 2 - BitVec.ofNat 16 (2 * j) :=
  copyDone_sp j (pushed s.regs.bp s)

theorem canPush_enterCopied {s : State} {l : Nat} (hl : l ≠ 0)
    (h : writable16 s s.sregs.ss (s.regs.sp - 2 - BitVec.ofNat 16 (2 * l))) : canPush (enterCopied (l - 1) s) := by
  obtain ⟨j, rfl⟩ := Nat.exists_eq_succ_of_ne_zero hl
  have hsp : (enterCopied j s).regs.sp - 2 = s.regs.sp - 2 - BitVec.ofNat 16 (2 * (j + 1)) := by
    rw [enterCopied_sp, sub_two_mul_succ]
    bv_omega
  have hss : (enterCopied j s).sregs = s.sregs := copyDone_sregs j (pushed s.regs.bp s)
  have hbus : (enterCopied j s).bus = s.bus := copyDone_bus j (pushed s.regs.bp s)
  rw [Nat.succ_sub_one, canPush, hsp, hss]
  unfold writable16 writable8 at h ⊢
  rwa [hbus]

theorem enterFrame_eq {s : State} (size : Word) (level : Byte) (h : canPush s) :
    enterFrame size level s =
      (enterDisplay (s.regs.sp - 2) (level.toNat % 32) (pushed s.regs.bp s)).bind fun _ u =>
        .done (enterDone size (s.regs.sp - 2) u) := by
  rw [enterFrame, push16_of_canPush _ h]
  rfl

theorem enterDisplay_of_open {s : State} {l : Nat} (h : copiesOpen s (l - 1))
    (hw : l ≠ 0 → writable16 s s.sregs.ss (s.regs.sp - 2 - BitVec.ofNat 16 (2 * l))) :
    enterDisplay (s.regs.sp - 2) l (pushed s.regs.bp s) = .ok () (enterDisplayed l s) := by
  by_cases hl : l = 0
  · rw [enterDisplay, enterDisplayed, if_pos hl, if_pos hl, enterCopied, copyDone_zero]
    rfl
  · rw [enterDisplay, enterDisplayed, if_neg hl, if_neg hl, copyFrames_of_copiesOpen (copiesOpen_pushed h).2,
      Res.bind_ok]
    exact push16_of_canPush _ (canPush_enterCopied hl (hw hl))

theorem enterFrame_of_open {s : State} {level : Byte} (size : Word) (h : copiesOpen s (level.toNat % 32 - 1))
    (hw : level.toNat % 32 ≠ 0 → writable16 s s.sregs.ss (s.regs.sp - 2 - BitVec.ofNat 16 (2 * (level.toNat % 32)))) :
    enterFrame size level s = .ok () (enterDone size (s.regs.sp - 2) (enterDisplayed (level.toNat % 32) s)) := by
  rw [enterFrame_eq size level (copiesOpen_pushed h).1, enterDisplay_of_open h hw]
  rfl

/-- ENTER's display refused at copy `j`, at the read or at the push. -/
theorem enterDisplay_of_copy_refused {s t : State} {l j : Nat} {f : CpuFault} (hj : j + 1 < l) (h : copiesOpen s j)
    (hc : ∀ m, copyFrames (m + 1) (enterCopied j s) = .raise f t) :
    enterDisplay (s.regs.sp - 2) l (pushed s.regs.bp s) = .raise f t := by
  obtain ⟨m, rfl⟩ := Nat.exists_eq_add_of_lt hj
  have hl : j + 1 + m + 1 - 1 = j + (m + 1) := by omega
  rw [enterDisplay, if_neg (Nat.succ_ne_zero _), hl, copyFrames_add _ (copiesOpen_pushed h).2]
  exact (congrArg (Res.bind · _) (hc m)).trans (Res.bind_raise _ _ _)

theorem copyFrames_of_read_refused {s : State} {f : CpuFault} (m : Nat)
    (h : wordReadRefused s s.sregs.ss (s.regs.bp - 2) f) :
    copyFrames (m + 1) s = .raise f (s.setReg16 .bp (s.regs.bp - 2)) := by
  have read := memRead16_of_refused (s := s.setReg16 .bp (s.regs.bp - 2)) (seg := s.sregs.ss) h
  change ((memRead16 s.sregs.ss (s.regs.bp - 2) (s.setReg16 .bp (s.regs.bp - 2))).bind _) = _
  rw [read, Res.bind_raise]

theorem copyFrames_of_push_refused {s t : State} {f : CpuFault} (m : Nat)
    (hr : readable16 s s.sregs.ss (s.regs.bp - 2))
    (h : pushRefused (s.setReg16 .bp (s.regs.bp - 2)) (s.wordAt s.sregs.ss (s.regs.bp - 2)) f t) :
    copyFrames (m + 1) s = .raise f t := by
  have read := memRead16_of_readable (s := s.setReg16 .bp (s.regs.bp - 2)) (seg := s.sregs.ss) hr
  change ((memRead16 s.sregs.ss (s.regs.bp - 2) (s.setReg16 .bp (s.regs.bp - 2))).bind _) = _
  rw [read, Res.bind_ok]
  exact (congrArg (Res.bind · _) (push16_of_refused h)).trans (Res.bind_raise _ _ _)

theorem enterCopied_bp_sub (j : Nat) (s : State) :
    (enterCopied j s).regs.bp - 2 = s.regs.bp - BitVec.ofNat 16 (2 * (j + 1)) := by
  change s.regs.bp - BitVec.ofNat 16 (2 * j) - 2 = _
  rw [sub_two_mul_succ]
  bv_omega

theorem enterDisplay_of_last_refused {s t : State} {l : Nat} {f : CpuFault} (hl : l ≠ 0) (h : copiesOpen s (l - 1))
    (hp : pushRefused (enterCopied (l - 1) s) (s.regs.sp - 2) f t) :
    enterDisplay (s.regs.sp - 2) l (pushed s.regs.bp s) = .raise f t := by
  rw [enterDisplay, if_neg hl, copyFrames_of_copiesOpen (copiesOpen_pushed h).2, Res.bind_ok]
  exact push16_of_refused hp

theorem enterFrame_of_display_refused {s t : State} {level : Byte} {f : CpuFault} (size : Word) (hp : canPush s)
    (h : enterDisplay (s.regs.sp - 2) (level.toNat % 32) (pushed s.regs.bp s) = .raise f t) :
    enterFrame size level s = .raise f t := by
  rw [enterFrame_eq size level hp, h, Res.bind_raise]

/-! ### The frame that ENTER builds -/

theorem enterDisplayed_sp (l : Nat) (s : State) :
    (enterDisplayed l s).regs.sp = s.regs.sp - 2 - BitVec.ofNat 16 (2 * l) := by
  cases l with
  | zero => exact enterCopied_sp 0 s
  | succ j =>
    change (enterCopied j s).regs.sp - 2 = _
    rw [enterCopied_sp, sub_two_mul_succ]
    bv_omega

theorem enterDisplayed_ss (l : Nat) (s : State) : (enterDisplayed l s).sregs = s.sregs := by
  cases l with
  | zero => exact copyDone_sregs 0 (pushed s.regs.bp s)
  | succ j => exact copyDone_sregs j (pushed s.regs.bp s)

theorem enterDisplayed_ip (l : Nat) (s : State) : (enterDisplayed l s).ip = s.ip := by
  cases l with
  | zero => exact copyDone_ip 0 (pushed s.regs.bp s)
  | succ j => exact copyDone_ip j (pushed s.regs.bp s)

/-- The old BP stands below everything ENTER pushes after it. -/
theorem stacked_enterDisplayed {l : Nat} {s : State} (hl : l < 32) (hw : s.mem.wf) :
    stacked (enterDisplayed l s) (BitVec.ofNat 16 (2 * l)) = s.regs.bp := by
  have bottom (j : Nat) (hj : j < 32) : stacked (enterCopied j s) (BitVec.ofNat 16 (2 * j)) = s.regs.bp := by
    have h := stacked_copyDone (j := j) (k := 0) (pushed s.regs.bp s) (by omega)
    rw [Nat.zero_add] at h
    exact h.trans (stacked_pushed_zero hw s.regs.bp)
  cases l with
  | zero => exact bottom 0 hl
  | succ j =>
    have push := stacked_pushed_add_two (s := enterCopied j s) (k := BitVec.ofNat 16 (2 * j))
      (by rw [BitVec.toNat_ofNat]; omega) (s.regs.sp - 2)
    rw [show 2 * (j + 1) = 2 * j + 2 from rfl, BitVec.ofNat_add]
    exact push.trans (bottom j (Nat.lt_of_succ_lt hl))

theorem wordAt_enterDisplayed (l : Nat) (s : State) (k off : Word)
    (h : s.regs.sp - 2 - BitVec.ofNat 16 (2 * l) + k = off) :
    (enterDisplayed l s).wordAt s.sregs.ss off = stacked (enterDisplayed l s) k := by
  rw [stacked, enterDisplayed_sp, enterDisplayed_ss, h]

/-- The bus addresses of the words from the new BP down. -/
def displayCells (l : Nat) (s : State) : List Nat :=
  (List.range (l + 1)).flatMap fun k => wordCells s s.sregs.ss (s.regs.sp - 2 - BitVec.ofNat 16 (2 * k))

theorem wordCells_subset_displayCells {l k : Nat} {s : State} {x : Word} (hk : k < l + 1)
    (hx : s.regs.sp - 2 - BitVec.ofNat 16 (2 * k) = x) : wordCells s s.sregs.ss x ⊆ displayCells l s := by
  subst hx
  exact fun a ha => List.mem_flatMap.mpr ⟨k, List.mem_range.mpr hk, ha⟩

theorem enterCopied_frame {j l : Nat} (s : State) (hj : j < l + 1) :
    framedBy s (enterCopied j s) { regs := [.sp, .bp] } (displayCells l s) := by
  have hsp : Reg16.sp ∈ ({ regs := [.sp, .bp] } : Reach).regs := by decide
  have first : framedBy s (pushed s.regs.bp s) { regs := [.sp, .bp] } (displayCells l s) :=
    framedBy_pushed (framedBy_refl s _ _) hsp rfl rfl
      (wordCells_subset_displayCells (Nat.succ_pos l) (BitVec.sub_zero _)) s.regs.bp
  exact framedBy_copyDone first hsp (by decide) rfl fun k hk => wordCells_subset_displayCells (by omega) rfl

theorem enterDisplayed_frame (l : Nat) (s : State) :
    framedBy s (enterDisplayed l s) { regs := [.sp, .bp] } (displayCells l s) := by
  cases l with
  | zero => exact enterCopied_frame s (Nat.succ_pos 0)
  | succ j =>
    have hss : (enterCopied j s).sregs.ss = s.sregs.ss := congrArg (·.ss) (copyDone_sregs j (pushed s.regs.bp s))
    exact framedBy_pushed (enterCopied_frame s (by omega)) (by decide) hss rfl
      (wordCells_subset_displayCells (k := j + 1) (by omega) (enterDisplayed_sp (j + 1) s).symm) (s.regs.sp - 2)

/-- Settles O49. -/
theorem enterAndLeave : Obligations.EnterAndLeave := by
  refine ⟨fun size level s ho => ?_, fun s h => ?_, fun s f h => ?_, fun size level s t f => ⟨fun h hw => ?_,
    fun h => ?_, fun j hj h => ⟨fun hr => ?_, fun hr hp => ?_⟩, fun hl h hp => ?_⟩⟩
  · intro l frame
    have hl : l < 32 := Nat.mod_lt _ (by decide)
    have run := enterFrame_of_open (s := s) (level := level) size
      ⟨fun _ _ => ⟨(ho _).2, (ho _).2⟩, fun _ _ => ⟨(ho _).1, (ho _).1⟩⟩ fun _ => ⟨(ho _).2, (ho _).2⟩
    have hf : framedBy s (enterDone size frame (enterDisplayed l s)) { regs := [.sp, .bp] } (displayCells l s) :=
      framedBy_setReg16 (framedBy_setReg16 (enterDisplayed_frame l s) (r := .bp) (by decide) frame) (r := .sp)
        (by decide) _
    refine ⟨_, congrArg Res.outcome run, rfl, ?_, enterDisplayed_ip l s, fun hm => ⟨?_, fun h0 => ?_⟩,
      framed_of_framedBy hf rfl⟩
    · exact congrArg (· - size) (enterDisplayed_sp l s)
    · exact (wordAt_enterDisplayed l s _ _ (BitVec.sub_add_cancel _ _)).trans (stacked_enterDisplayed hl hm)
    · obtain ⟨j, hj⟩ := Nat.exists_eq_succ_of_ne_zero h0
      have top : stacked (enterDisplayed l s) 0 = frame := by
        rw [hj]
        exact stacked_pushed_zero (s := enterCopied j s) (copyDone_wf j (State.putWord_wf hm _ _ _)) _
      exact (wordAt_enterDisplayed l s 0 _ (BitVec.add_zero _)).trans top
  · have pop := popReg_of_canPop (s := s.setSP s.regs.bp) .bp ((canPop_zero _).mpr h)
    have value : stacked (s.setSP s.regs.bp) 0 = s.wordAt s.sregs.ss s.regs.bp := stacked_zero _
    rw [value] at pop
    exact congrArg Res.outcome pop
  · have pop := pop16_of_refused (s := s.setSP s.regs.bp) h
    change Res.outcome (popReg .bp _) = _
    rw [popReg, pop]
    rfl
  · exact congrArg Res.outcome (enterFrame_of_open size h hw)
  · change Res.outcome (enterFrame size level s) = _
    rw [enterFrame, push16_of_refused h]
    rfl
  · have hc (m : Nat) := copyFrames_of_read_refused (s := enterCopied j s) (f := f) m
      (by rw [enterCopied_bp_sub]; exact hr)
    rw [enterCopied_bp_sub] at hc
    exact congrArg Res.outcome (enterFrame_of_display_refused size (copiesOpen_pushed h).1
      (enterDisplay_of_copy_refused hj h hc))
  · have hc (m : Nat) := copyFrames_of_push_refused (s := enterCopied j s) (f := f) (t := t) m
      (by rw [enterCopied_bp_sub]; exact hr) (by rw [enterCopied_bp_sub]; exact hp)
    exact congrArg Res.outcome (enterFrame_of_display_refused size (copiesOpen_pushed h).1
      (enterDisplay_of_copy_refused hj h hc))
  · exact congrArg Res.outcome (enterFrame_of_display_refused size (copiesOpen_pushed h).1
      (enterDisplay_of_last_refused hl h hp))

end Sys2Proof.Machine
end

section
/-! The string instructions: one element of each, and the repeat prefixes (49 sections 1 to 3). -/

namespace Sys2Proof.Machine
open Claims

/-! ### One element -/

section
variable {s : State}

theorem movs8_of_open (hr : readable8 s (s.segmentOr .ds) s.regs.si) (hw : writable8 s s.sregs.es s.regs.di) :
    movs8 s =
      .ok () (moved s 1 true true (s.putByte s.sregs.es s.regs.di (s.byteAt (s.segmentOr .ds) s.regs.si))) := by
  rw [movs8, State.sourceSeg, memRead8_eq hr, Res.bind_ok, memWrite8_eq _ hw]
  rfl

theorem movs16_of_open (hr : readable16 s (s.segmentOr .ds) s.regs.si) (hw : writable16 s s.sregs.es s.regs.di) :
    movs16 s =
      .ok () (moved s 2 true true (s.putWord s.sregs.es s.regs.di (s.wordAt (s.segmentOr .ds) s.regs.si))) := by
  rw [movs16, State.sourceSeg, memRead16_of_readable hr, Res.bind_ok, memWrite16_of_writable _ hw]
  rfl

theorem cmps8_of_open (hr : readable8 s (s.segmentOr .ds) s.regs.si) (hd : readable8 s s.sregs.es s.regs.di) :
    cmps8 s = .ok () (moved s 1 true true (s.setFlags
      (cmpFlags (s.byteAt (s.segmentOr .ds) s.regs.si) (s.byteAt s.sregs.es s.regs.di) s.fe))) := by
  rw [cmps8, State.sourceSeg, memRead8_eq hr, Res.bind_ok, memRead8_eq hd]
  rfl

theorem cmps16_of_open (hr : readable16 s (s.segmentOr .ds) s.regs.si) (hd : readable16 s s.sregs.es s.regs.di) :
    cmps16 s = .ok () (moved s 2 true true (s.setFlags
      (cmpFlags (s.wordAt (s.segmentOr .ds) s.regs.si) (s.wordAt s.sregs.es s.regs.di) s.fe))) := by
  rw [cmps16, State.sourceSeg, memRead16_of_readable hr, Res.bind_ok, memRead16_of_readable hd]
  rfl

theorem lods8_of_open (hr : readable8 s (s.segmentOr .ds) s.regs.si) :
    lods8 s = .ok () (moved s 1 true false (s.setReg8 .al (s.byteAt (s.segmentOr .ds) s.regs.si))) := by
  rw [lods8, State.sourceSeg, memRead8_eq hr]
  rfl

theorem lods16_of_open (hr : readable16 s (s.segmentOr .ds) s.regs.si) :
    lods16 s = .ok () (moved s 2 true false (s.setReg16 .ax (s.wordAt (s.segmentOr .ds) s.regs.si))) := by
  rw [lods16, State.sourceSeg, memRead16_of_readable hr]
  rfl

theorem outs8_of_open (hr : readable8 s (s.segmentOr .ds) s.regs.si) :
    outs8 s = .ok () (moved s 1 true false (sentPort s [(s.regs.dx, s.byteAt (s.segmentOr .ds) s.regs.si)])) := by
  rw [outs8, State.sourceSeg, memRead8_eq hr]
  rfl

/-- A word goes to two ports, low byte first. -/
theorem portWrite16_eq (port v : Word) (s : State) :
    portWrite16 port v s = .ok () (sentPort s [(port, v.extractLsb' 0 8), (port + 1, v.extractLsb' 8 8)]) := by
  simp only [portWrite16, portWrite8, sentPort, Res.done, Res.bind_ok, List.append_assoc]
  rfl

theorem outs16_of_open (hr : readable16 s (s.segmentOr .ds) s.regs.si) :
    outs16 s = .ok () (moved s 2 true false (sentPort s
      [(s.regs.dx, (s.wordAt (s.segmentOr .ds) s.regs.si).extractLsb' 0 8),
        (s.regs.dx + 1, (s.wordAt (s.segmentOr .ds) s.regs.si).extractLsb' 8 8)])) := by
  rw [outs16, State.sourceSeg, memRead16_of_readable hr, Res.bind_ok, portWrite16_eq]
  rfl

theorem scas8_of_open (hd : readable8 s s.sregs.es s.regs.di) :
    scas8 s = .ok () (moved s 1 false true (s.setFlags
      (cmpFlags (s.reg8 .al) (s.byteAt s.sregs.es s.regs.di) s.fe))) := by
  rw [scas8, memRead8_eq hd]
  rfl

theorem scas16_of_open (hd : readable16 s s.sregs.es s.regs.di) :
    scas16 s = .ok () (moved s 2 false true (s.setFlags
      (cmpFlags s.regs.ax (s.wordAt s.sregs.es s.regs.di) s.fe))) := by
  rw [scas16, memRead16_of_readable hd]
  rfl

theorem stos8_of_open (hw : writable8 s s.sregs.es s.regs.di) :
    stos8 s = .ok () (moved s 1 false true (s.putByte s.sregs.es s.regs.di (s.reg8 .al))) := by
  rw [stos8, memWrite8_eq _ hw]
  rfl

theorem stos16_of_open (hw : writable16 s s.sregs.es s.regs.di) :
    stos16 s = .ok () (moved s 2 false true (s.putWord s.sregs.es s.regs.di s.regs.ax)) := by
  rw [stos16, memWrite16_of_writable _ hw]
  rfl

theorem ins8_of_open (hw : writable8 s s.sregs.es s.regs.di) :
    ins8 s = .ok () (moved s 1 false true
      ({ s with ports := afterRead s.ports s.regs.dx }.putByte s.sregs.es s.regs.di (s.ports.answer s.regs.dx))) := by
  have write (v : Byte) := memWrite8_eq (s := { s with ports := afterRead s.ports s.regs.dx }) v hw
  have read : portRead8 s.regs.dx s = .ok (s.ports.answer s.regs.dx)
      { s with ports := afterRead s.ports s.regs.dx } := rfl
  rw [ins8, read, Res.bind_ok, write]
  rfl

theorem ins16_of_open (hw : writable16 s s.sregs.es s.regs.di) :
    ins16 s = .ok () (moved s 2 false true
      ({ s with ports := afterRead (afterRead s.ports s.regs.dx) (s.regs.dx + 1) }.putWord s.sregs.es s.regs.di
        ((afterRead s.ports s.regs.dx).answer (s.regs.dx + 1) ++ s.ports.answer s.regs.dx))) := by
  have write (v : Word) := memWrite16_of_writable
    (s := { s with ports := afterRead (afterRead s.ports s.regs.dx) (s.regs.dx + 1) }) v hw
  have read : portRead16 s.regs.dx s =
      .ok ((afterRead s.ports s.regs.dx).answer (s.regs.dx + 1) ++ s.ports.answer s.regs.dx)
        { s with ports := afterRead (afterRead s.ports s.regs.dx) (s.regs.dx + 1) } := rfl
  rw [ins16, read, Res.bind_ok, write]
  rfl

/-! ### The prefix -/

theorem repeated_of_none (c : Bool) (body : State → Res Unit) (h : s.rep = .none) : repeated c body s = body s := by
  simp only [repeated, h]

theorem repeated_of_rep (c : Bool) (body : State → Res Unit) (h : s.rep ≠ .none) :
    repeated c body s = repeatLoop c body s.regs.cx.toNat s := by
  unfold repeated
  split
  · contradiction
  · rfl
  · rfl

end

/-- Settles O53. -/
theorem stringElements : Obligations.StringElements := by
  intro s hn
  have one (c : Bool) (body : State → Res Unit) {t : State} (h : body s = .ok () t) :
      (repeated c body s).outcome = .next t := by
    rw [repeated_of_none c body hn, h]
    rfl
  exact ⟨fun hr => ⟨fun hw => one _ _ (movs8_of_open hr hw), fun hd => one _ _ (cmps8_of_open hr hd),
      one _ _ (lods8_of_open hr), one _ _ (outs8_of_open hr)⟩,
    fun hr => ⟨fun hw => one _ _ (movs16_of_open hr hw), fun hd => one _ _ (cmps16_of_open hr hd),
      one _ _ (lods16_of_open hr), one _ _ (outs16_of_open hr)⟩,
    fun hd => one _ _ (scas8_of_open hd), fun hd => one _ _ (scas16_of_open hd),
    fun hw => ⟨one _ _ (stos8_of_open hw), one _ _ (ins8_of_open hw)⟩,
    fun hw => ⟨one _ _ (stos16_of_open hw), one _ _ (ins16_of_open hw)⟩⟩

/-! ### The repeat prefixes -/

/-- CX and the repeat prefix are as in `s`. -/
def KeepsCount (s t : State) : Prop := t.regs.cx = s.regs.cx ∧ t.rep = s.rep

section
variable {s t : State} (h : KeepsCount s t)
include h

theorem keepsCount_memWrite8 (seg off : Word) (v : Byte) : (memWrite8 seg off v t).All (KeepsCount s) := by
  unfold memWrite8
  split <;> exact h

theorem keepsCount_memWrite16 (seg off v : Word) : (memWrite16 seg off v t).All (KeepsCount s) :=
  (keepsCount_memWrite8 h _ _ _).bind fun _ _ h => keepsCount_memWrite8 h _ _ _

theorem movs8_keepsCount : (movs8 t).All (KeepsCount s) :=
  (memRead8_all h _ _).bind fun _ _ h => (keepsCount_memWrite8 h _ _ _).bind fun _ _ h => h

theorem movs16_keepsCount : (movs16 t).All (KeepsCount s) :=
  (memRead16_all h _ _).bind fun _ _ h => (keepsCount_memWrite16 h _ _ _).bind fun _ _ h => h

theorem cmps8_keepsCount : (cmps8 t).All (KeepsCount s) :=
  (memRead8_all h _ _).bind fun _ _ h => (memRead8_all h _ _).bind fun _ _ h => h

theorem cmps16_keepsCount : (cmps16 t).All (KeepsCount s) :=
  (memRead16_all h _ _).bind fun _ _ h => (memRead16_all h _ _).bind fun _ _ h => h

theorem scas8_keepsCount : (scas8 t).All (KeepsCount s) := (memRead8_all h _ _).bind fun _ _ h => h

theorem scas16_keepsCount : (scas16 t).All (KeepsCount s) := (memRead16_all h _ _).bind fun _ _ h => h

theorem lods8_keepsCount : (lods8 t).All (KeepsCount s) := (memRead8_all h _ _).bind fun _ _ h => h

theorem lods16_keepsCount : (lods16 t).All (KeepsCount s) := (memRead16_all h _ _).bind fun _ _ h => h

theorem stos8_keepsCount : (stos8 t).All (KeepsCount s) := (keepsCount_memWrite8 h _ _ _).bind fun _ _ h => h

theorem stos16_keepsCount : (stos16 t).All (KeepsCount s) := (keepsCount_memWrite16 h _ _ _).bind fun _ _ h => h

theorem ins8_keepsCount : (ins8 t).All (KeepsCount s) :=
  Res.All.bind (P := KeepsCount s) (r := portRead8 t.regs.dx t) h fun _ _ h =>
    (keepsCount_memWrite8 h _ _ _).bind fun _ _ h => h

theorem ins16_keepsCount : (ins16 t).All (KeepsCount s) :=
  Res.All.bind (P := KeepsCount s) (r := portRead16 t.regs.dx t) h fun _ _ h =>
    (keepsCount_memWrite16 h _ _ _).bind fun _ _ h => h

theorem outs8_keepsCount : (outs8 t).All (KeepsCount s) := (memRead8_all h _ _).bind fun _ _ h => h

theorem outs16_keepsCount : (outs16 t).All (KeepsCount s) := (memRead16_all h _ _).bind fun _ _ h => h

end

/-- The conditional repeat ends as R570 and R571 say. -/
theorem repeatStops_iff (c : Bool) {s : State} (h : s.rep ≠ .none) :
    repeatStops c s = true ↔ c = true ∧ ((s.rep = .rep ∧ s.fe.zf = false) ∨ (s.rep = .repNe ∧ s.fe.zf = true)) := by
  cases hr : s.rep with
  | none => contradiction
  | rep => simp [repeatStops, hr]
  | repNe => simp [repeatStops, hr]

theorem repeatLoop_of_cx_zero (c : Bool) (body : State → Res Unit) (n : Nat) {s : State} (h : s.regs.cx = 0) :
    repeatLoop c body n s = .ok () s := by
  cases n with
  | zero => rfl
  | succ n =>
    rw [repeatLoop, if_pos h]
    rfl

theorem repeatLoop_succ {c : Bool} {body : State → Res Unit} {s t : State} (n : Nat) (h : s.regs.cx ≠ 0)
    (hb : body s = .ok () t) :
    repeatLoop c body (n + 1) s =
      if repeatStops c (t.setReg16 .cx (t.regs.cx - 1)) then .ok () (t.setReg16 .cx (t.regs.cx - 1))
      else repeatLoop c body n (t.setReg16 .cx (t.regs.cx - 1)) := by
  rw [repeatLoop, if_neg h, hb]
  rfl

theorem repeatLoop_of_raise {c : Bool} {body : State → Res Unit} {s t : State} {f : CpuFault} (n : Nat)
    (h : s.regs.cx ≠ 0) (hb : body s = .raise f t) : repeatLoop c body (n + 1) s = .raise f t := by
  rw [repeatLoop, if_neg h, hb]
  rfl

/-- The law of the repeat prefixes, for every instruction that repeats a body that keeps CX and the prefix. -/
theorem repeats_of_exec {i : Instr} {body : State → Res Unit} {c : Bool}
    (he : ∀ s, exec i s = (repeated c body s).outcome)
    (hk : ∀ {s t : State}, KeepsCount s t → (body t).All (KeepsCount s)) : repeats i body c := by
  intro s hrep
  have looped := (he s).trans (congrArg Res.outcome (repeated_of_rep c body hrep))
  have count (h : s.regs.cx ≠ 0) : s.regs.cx.toNat = (s.regs.cx - 1).toNat + 1 := by bv_omega
  refine ⟨fun h => ?_, fun t h hb => ?_, fun f t h hb => ?_⟩
  · rw [looped, repeatLoop_of_cx_zero _ _ _ h]
    rfl
  · intro u stops
    have kept : KeepsCount s t := by
      have := hk (s := s) ⟨rfl, rfl⟩
      rwa [hb] at this
    obtain ⟨hcx, hr⟩ := kept
    have hur : u.rep ≠ .none := by
      change t.rep ≠ .none
      rwa [hr]
    have stops_iff : repeatStops c u = true ↔ stops := by
      refine (repeatStops_iff c hur).trans ?_
      change _ ∧ ((t.rep = _ ∧ t.fe.zf = false) ∨ (t.rep = _ ∧ t.fe.zf = true)) ↔ _
      rw [hr]
    rw [looped, count h, repeatLoop_succ _ h hb, hcx]
    refine ⟨fun hs => ?_, fun hs => ?_⟩
    · rw [if_pos (stops_iff.mpr hs)]
      rfl
    · rw [if_neg (mt stops_iff.mp hs), he u, repeated_of_rep c body hur]
      rfl
  · rw [looped, count h, repeatLoop_of_raise _ h hb]
    rfl

/-- Settles O54. -/
theorem repeatPrefixLoop : Obligations.RepeatPrefixLoop :=
  ⟨repeats_of_exec (fun _ => rfl) movs8_keepsCount, repeats_of_exec (fun _ => rfl) movs16_keepsCount,
    repeats_of_exec (fun _ => rfl) cmps8_keepsCount, repeats_of_exec (fun _ => rfl) cmps16_keepsCount,
    repeats_of_exec (fun _ => rfl) scas8_keepsCount, repeats_of_exec (fun _ => rfl) scas16_keepsCount,
    repeats_of_exec (fun _ => rfl) lods8_keepsCount, repeats_of_exec (fun _ => rfl) lods16_keepsCount,
    repeats_of_exec (fun _ => rfl) stos8_keepsCount, repeats_of_exec (fun _ => rfl) stos16_keepsCount,
    repeats_of_exec (fun _ => rfl) ins8_keepsCount, repeats_of_exec (fun _ => rfl) ins16_keepsCount,
    repeats_of_exec (fun _ => rfl) outs8_keepsCount, repeats_of_exec (fun _ => rfl) outs16_keepsCount⟩

end Sys2Proof.Machine
end

section
/-! REP MOVSB copies a block (49 section 3). -/

namespace Sys2Proof.Machine
open Claims

/-- One byte moved and the count lowered. -/
def copyOne (s : State) : State :=
  (moved s 1 true true (s.putByte s.sregs.es s.regs.di (s.byteAt (s.segmentOr .ds) s.regs.si))).setReg16 .cx
    (s.regs.cx - 1)

/-- `n` bytes moved, one after another. -/
def copyBytes : Nat → State → State
  | 0, s => s
  | n + 1, s => copyBytes n (copyOne s)

/-- Every byte of the source segment can be read and of ES written. -/
def CopyOpen (s : State) : Prop := (∀ off, readable8 s (s.segmentOr .ds) off) ∧ ∀ off, writable8 s s.sregs.es off

theorem repeatLoop_movs8 {n : Nat} {s : State} (hn : s.regs.cx.toNat = n) (ho : CopyOpen s) :
    repeatLoop false movs8 n s = .ok () (copyBytes n s) := by
  induction n generalizing s with
  | zero => rfl
  | succ n ih =>
    have hcx : s.regs.cx ≠ 0 := by
      intro h
      rw [h] at hn
      cases hn
    have hn' : (copyOne s).regs.cx.toNat = n := by
      change (s.regs.cx - 1).toNat = n
      bv_omega
    rw [repeatLoop_succ n hcx (movs8_of_open (ho.1 _) (ho.2 _))]
    exact ih (s := copyOne s) hn' ho

/-! ### The elements of a block -/

theorem stringOff_zero (s : State) (p : Word) : stringOff s p 0 = p := by
  simp [stringOff]

/-- The element after the first is the first from the moved pointer on. -/
theorem stringOff_succ (s : State) (p : Word) (k : Nat) : stringOff s p (k + 1) = stringOff s (stringOff s p 1) k := by
  unfold stringOff
  split <;> rw [BitVec.ofNat_add] <;> bv_omega

theorem stringOff_ne {s : State} {p : Word} {k : Nat} (h : k + 1 < 2 ^ 16) : stringOff s p (k + 1) ≠ p := by
  have hk : (BitVec.ofNat 16 (k + 1)).toNat = k + 1 := by rw [BitVec.toNat_ofNat]; omega
  unfold stringOff
  split <;> intro e <;> bv_omega

/-- What a copy changes: CX, SI, DI and memory. -/
theorem copyBytes_eq (n : Nat) (s : State) :
    copyBytes n s =
      { s with
        regs :=
          { s.regs with
            cx := s.regs.cx - BitVec.ofNat 16 n
            si := stringOff s s.regs.si n
            di := stringOff s s.regs.di n }
        mem := (copyBytes n s).mem } := by
  induction n generalizing s with
  | zero =>
    rw [stringOff_zero, stringOff_zero]
    exact congrArg (fun v => { s with regs := { s.regs with cx := v } }) (BitVec.sub_zero s.regs.cx).symm
  | succ n ih =>
    refine (ih (copyOne s)).trans ?_
    have hcx : s.regs.cx - BitVec.ofNat 16 (n + 1) = s.regs.cx - 1 - BitVec.ofNat 16 n := by
      rw [BitVec.ofNat_add]
      bv_omega
    rw [stringOff_succ s s.regs.si, stringOff_succ s s.regs.di, hcx]
    rfl

/-- The bus address of destination element `k`. -/
def destCell (s : State) (k : Nat) : Nat := busAddr s.bus.map s.sregs.es (stringOff s s.regs.di k)

/-- The bus address of source element `k`. -/
def sourceCell (s : State) (k : Nat) : Nat := busAddr s.bus.map (s.segmentOr .ds) (stringOff s s.regs.si k)

theorem destCell_copyOne (s : State) (k : Nat) : destCell (copyOne s) k = destCell s (k + 1) := by
  rw [destCell, destCell, stringOff_succ]
  rfl

theorem sourceCell_copyOne (s : State) (k : Nat) : sourceCell (copyOne s) k = sourceCell s (k + 1) := by
  rw [sourceCell, sourceCell, stringOff_succ]
  rfl

theorem byteAt_copyOne_of_ne {s : State} {seg off : Word} (h : busAddr s.bus.map seg off ≠ destCell s 0) :
    (copyOne s).byteAt seg off = s.byteAt seg off := by
  rw [destCell, stringOff_zero] at h
  exact State.byteAt_putByte_of_not_mem (off := s.regs.di) _ (by rwa [List.mem_singleton])

/-- A copy leaves every byte that is no destination. -/
theorem byteAt_copyBytes_of_ne {n : Nat} {s : State} {seg off : Word}
    (h : ∀ k < n, busAddr s.bus.map seg off ≠ destCell s k) :
    (copyBytes n s).byteAt seg off = s.byteAt seg off := by
  induction n generalizing s with
  | zero => rfl
  | succ n ih =>
    rw [copyBytes, ih, byteAt_copyOne_of_ne (h 0 (Nat.succ_pos n))]
    intro k hk
    rw [destCell_copyOne]
    exact h (k + 1) (Nat.succ_lt_succ hk)

theorem copyOne_wf {s : State} (h : s.mem.wf) : (copyOne s).mem.wf :=
  State.putByte_wf h s.sregs.es s.regs.di (s.byteAt (s.segmentOr .ds) s.regs.si)

theorem byteAt_copyOne {s : State} (h : s.mem.wf) :
    (copyOne s).byteAt s.sregs.es s.regs.di = s.byteAt (s.segmentOr .ds) s.regs.si :=
  (State.byteAt_putByte h _ _ _ _ _).trans (if_pos rfl)

/-- With no destination among the sources, each destination byte holds what its source byte held. -/
theorem byteAt_copyBytes {n k : Nat} {s : State} (hn : n < 2 ^ 16) (hw : s.mem.wf)
    (hd : ∀ i < n, ∀ j < n, sourceCell s i ≠ destCell s j) (hk : k < n) :
    (copyBytes n s).byteAt s.sregs.es (stringOff s s.regs.di k) =
      s.byteAt (s.segmentOr .ds) (stringOff s s.regs.si k) := by
  induction n generalizing s k with
  | zero => exact absurd hk (Nat.not_lt_zero k)
  | succ n ih =>
    cases k with
    | zero =>
      rw [stringOff_zero, stringOff_zero, copyBytes, byteAt_copyBytes_of_ne]
      · exact byteAt_copyOne hw
      · intro j hj
        rw [destCell_copyOne, destCell]
        exact busAddr_ne _ _ (stringOff_ne (by omega)).symm
    | succ k =>
      have rest := ih (s := copyOne s) (k := k) (by omega) (copyOne_wf hw) (fun i hi j hj => by
        rw [sourceCell_copyOne, destCell_copyOne]
        exact hd _ (Nat.succ_lt_succ hi) _ (Nat.succ_lt_succ hj)) (Nat.lt_of_succ_lt_succ hk)
      rw [stringOff_succ, stringOff_succ s s.regs.si]
      refine rest.trans (byteAt_copyOne_of_ne ?_)
      have := hd (k + 1) hk 0 (Nat.succ_pos n)
      rwa [← sourceCell_copyOne] at this

/-! ### The frame -/

/-- A pointer past an element of `n` bytes, as `moved` leaves it. -/
def elementPast (s : State) (n p : Word) : Word := if s.fe.df then p - n else p + n

theorem framedBy_moved {s u t : State} {f : Reach} {stored : List Nat} (n : Word) {si di : Bool}
    (hsi : si = true → Reg16.si ∈ f.regs) (hdi : di = true → Reg16.di ∈ f.regs) (h : framedBy s t f stored) :
    framedBy s (moved u n si di t) f stored := by
  cases si with
  | false =>
    cases di with
    | false => exact h
    | true => exact framedBy_setReg16 h (hdi rfl) (elementPast u n u.regs.di)
  | true =>
    have hs := framedBy_setReg16 h (hsi rfl) (elementPast u n u.regs.si)
    cases di with
    | false => exact hs
    | true => exact framedBy_setReg16 hs (hdi rfl) (elementPast u n u.regs.di)

theorem framedBy_copyBytes {s t : State} {n : Nat} {f : Reach} {stored : List Nat} (hcx : Reg16.cx ∈ f.regs)
    (hsi : Reg16.si ∈ f.regs) (hdi : Reg16.di ∈ f.regs) (h : framedBy s t f stored)
    (hc : ∀ k < n, destCell t k ∈ stored)
    (hb : t.bus = s.bus) : framedBy s (copyBytes n t) f stored := by
  induction n generalizing t with
  | zero => exact h
  | succ n ih =>
    have h0 := hc 0 (Nat.succ_pos n)
    rw [destCell, stringOff_zero, hb] at h0
    refine ih (t := copyOne t) ?_ (fun k hk => ?_) hb
    · exact framedBy_setReg16 (framedBy_moved 1 (fun _ => hsi) (fun _ => hdi) (framedBy_putByte h h0 _)) hcx _
    · rw [destCell_copyOne]
      exact hc (k + 1) (Nat.succ_lt_succ hk)

/-- Settles O55. -/
theorem repMovsbCopies : Obligations.RepMovsbCopies := by
  intro s hrep hr hw
  have run : exec .movsb s = .next (copyBytes s.regs.cx.toNat s) :=
    congrArg Res.outcome ((repeated_of_rep false movs8 hrep).trans (repeatLoop_movs8 rfl ⟨hr, hw⟩))
  have regs := congrArg State.regs (copyBytes_eq s.regs.cx.toNat s)
  have off (p : Word) : stringOff s p s.regs.cx.toNat = if s.fe.df then p - s.regs.cx else p + s.regs.cx := by
    rw [stringOff, BitVec.ofNat_toNat, BitVec.setWidth_eq]
  have frame : framedBy s (copyBytes s.regs.cx.toNat s) { regs := [.cx, .si, .di] }
      ((List.range s.regs.cx.toNat).map (destCell s)) :=
    framedBy_copyBytes (by decide) (by decide) (by decide) (framedBy_refl s _ _)
      (fun k hk => List.mem_map_of_mem (List.mem_range.mpr hk)) rfl
  refine ⟨_, run, ?_, by rw [copyBytes_eq], ?_, ?_, framed_of_framedBy frame rfl,
    fun hm hd k hk => byteAt_copyBytes s.regs.cx.isLt hm hd hk⟩
  · rw [regs, BitVec.ofNat_toNat, BitVec.setWidth_eq]
    exact BitVec.sub_self _
  · rw [regs, ← off]
  · rw [regs, ← off]

end Sys2Proof.Machine
end

section
/-! The frames of the storing forms, from the state each form leaves (40 section 3, 41, 43 section 4, 46, 49). -/

namespace Sys2Proof.Machine
open Claims

/-! ### From the state a form leaves to its frame law -/

theorem reachLaw_of_next {i : Instr} {pre : State → Prop} {f : Reach} {stored : State → List Nat}
    (h : ∀ s, fresh s → pre s → ∃ u, exec i s = .next u ∧ framedBy s u f (stored s)) : ReachLaw i pre f stored := by
  intro s t hf hp he
  obtain ⟨u, hu, hs⟩ := h s hf hp
  cases he.symm.trans hu
  exact hs

theorem frameLaw_of_next {i : Instr} {pre : State → Prop} {regs : List Reg16} {flags : Bool} {stored : State → List Nat}
    (h : ∀ s, fresh s → pre s → ∃ u, exec i s = .next u ∧ framedBy s u { regs := regs, status := flags } (stored s)) :
    FrameLaw i pre regs flags stored :=
  fun s t hf hp he => framed_of_framedBy (reachLaw_of_next h s t hf hp he) rfl

theorem framedBy_opened (m : ModRM) (s : State) (f : Reach) (stored : List Nat) : framedBy s (opened m s) f stored :=
  framedBy_doc (framedBy_refl s f stored) _

section
variable {s t : State} {f : Reach} {stored : List Nat} (h : framedBy s t f stored)
include h

theorem framedBy_assign8 {rm : Rm Reg8} (hr : destRegs8 rm ⊆ f.regs) (hs : stored8 s rm ⊆ stored) (v : Byte) :
    framedBy s (assign8 s rm v t) f stored := by
  cases rm with
  | reg r => exact framedBy_setReg8 h (hr (List.mem_singleton.mpr rfl)) v
  | mem e => exact framedBy_putByte h (hs (List.mem_singleton.mpr rfl)) v

theorem framedBy_assign16 {rm : Rm Reg16} (hr : destRegs16 rm ⊆ f.regs) (hs : stored16 s rm ⊆ stored) (v : Word) :
    framedBy s (assign16 s rm v t) f stored := by
  cases rm with
  | reg r => exact framedBy_setReg16 h (hr (List.mem_singleton.mpr rfl)) v
  | mem e => exact framedBy_putWord h hs v

end

/-! ### Results written with flags -/

theorem frame_result8 {s : State} (m : ModRM) (rm : Rm Reg8) (v : Byte) {fe : FlagEngine} (h : sameControl s.fe fe) :
    framedBy s (assign8 s rm v ((opened m s).setFlags fe)) { regs := destRegs8 rm, status := true } (stored8 s rm) :=
  framedBy_assign8 (framedBy_setFlags (framedBy_opened m s _ _) rfl h) (List.Subset.refl _) (List.Subset.refl _) v

theorem frame_result16 {s : State} (m : ModRM) (rm : Rm Reg16) (v : Word) {fe : FlagEngine} (h : sameControl s.fe fe) :
    framedBy s (assign16 s rm v ((opened m s).setFlags fe)) { regs := destRegs16 rm, status := true } (stored16 s rm) :=
  framedBy_assign16 (framedBy_setFlags (framedBy_opened m s _ _) rfl h) (List.Subset.refl _) (List.Subset.refl _) v

theorem frame_assign8 (s : State) (m : ModRM) (rm : Rm Reg8) (v : Byte) :
    framedBy s (assign8 s rm v (opened m s)) { regs := destRegs8 rm } (stored8 s rm) :=
  framedBy_assign8 (framedBy_opened m s _ _) (List.Subset.refl _) (List.Subset.refl _) v

theorem frame_assign16 (s : State) (m : ModRM) (rm : Rm Reg16) (v : Word) :
    framedBy s (assign16 s rm v (opened m s)) { regs := destRegs16 rm } (stored16 s rm) :=
  framedBy_assign16 (framedBy_opened m s _ _) (List.Subset.refl _) (List.Subset.refl _) v

theorem frame_aluDone8 {op : AluOp} (hop : op ≠ .cmp) (s : State) (m : ModRM) (rm : Rm Reg8) (a b : Byte) :
    framedBy s (aluDone8 op (op.apply a b s.fe) s rm (opened m s)) { regs := destRegs8 rm, status := true }
      (stored8 s rm) := by
  rw [aluDone8, if_neg hop]
  exact frame_result8 m rm _ (aluApply_control op a b s.fe)

theorem frame_aluDone16 {op : AluOp} (hop : op ≠ .cmp) (s : State) (m : ModRM) (rm : Rm Reg16) (a b : Word) :
    framedBy s (aluDone16 op (op.apply a b s.fe) s rm (opened m s)) { regs := destRegs16 rm, status := true }
      (stored16 s rm) := by
  rw [aluDone16, if_neg hop]
  exact frame_result16 m rm _ (aluApply_control op a b s.fe)

/-! ### The groups of forms -/

/-- The frame law of a form that reads and writes `r/m8`, with its flags or without. -/
def StoreFrame8 (i : Instr) (rm : Rm Reg8) (flags : Bool) : Prop :=
  FrameLaw i (fun s => canRead8 s rm ∧ canWrite8 s rm) (destRegs8 rm) flags (stored8 · rm)

/-- The frame law of a form that reads and writes `r/m16`. -/
def StoreFrame16 (i : Instr) (rm : Rm Reg16) (flags : Bool) : Prop :=
  FrameLaw i (fun s => canRead16 s rm ∧ canWrite16 s rm) (destRegs16 rm) flags (stored16 · rm)

theorem storeFrame8_of_unary {mk : Rm Reg8 → Instr} {g : BitVec 3} {f : Byte → FlagEngine → Byte × FlagEngine}
    (h : Unary8 mk g f) (hc : ∀ a fe, sameControl fe (f a fe).2) (rm : Rm Reg8) : StoreFrame8 (mk rm) rm true :=
  frameLaw_of_next fun s hf hp => ⟨_, (h rm s hf hp.1).1 hp.2, frame_result8 _ rm _ (hc _ _)⟩

theorem storeFrame16_of_unary {mk : Rm Reg16 → Instr} {g : BitVec 3} {f : Word → FlagEngine → Word × FlagEngine}
    (h : Unary16 mk g f) (hc : ∀ a fe, sameControl fe (f a fe).2) (rm : Rm Reg16) : StoreFrame16 (mk rm) rm true :=
  frameLaw_of_next fun s hf hp => ⟨_, (h rm s hf hp.1).1 hp.2, frame_result16 _ rm _ (hc _ _)⟩

theorem storeFrame8_of_shift {i : Instr} {op : ShiftOp} {rm : Rm Reg8} {count : State → Byte}
    (h : ∀ s, fresh s → canRead8 s rm → shiftLaw8 i op rm s (count s)) : StoreFrame8 i rm true :=
  frameLaw_of_next fun s hf hp => ⟨_, (h s hf hp.1).1 hp.2, frame_result8 _ rm _ (shiftApply_control _ _ _ _ _)⟩

theorem storeFrame16_of_shift {i : Instr} {op : ShiftOp} {rm : Rm Reg16} {count : State → Byte}
    (h : ∀ s, fresh s → canRead16 s rm → shiftLaw16 i op rm s (count s)) : StoreFrame16 i rm true :=
  frameLaw_of_next fun s hf hp => ⟨_, (h s hf hp.1).1 hp.2, frame_result16 _ rm _ (shiftApply_control _ _ _ _ _)⟩

/-- The one-operand forms with flags and the shifts, at 8 bits. -/
theorem storeFrame8_flags {rm : Rm Reg8} {i : Instr} (hi : i = .incRm8 rm ∨ i = .decRm8 rm ∨ i = .negRm8 rm ∨
    (∃ op, i = shiftRm8By1Of op rm) ∨ (∃ op, i = shiftRm8ClOf op rm) ∨ ∃ op imm, i = shiftRmImm8Of op rm imm) :
    StoreFrame8 i rm true := by
  obtain ⟨-, -, inc8, dec8, neg8, -⟩ := unaryForms
  obtain ⟨shift8, -⟩ := shiftForms
  obtain rfl | rfl | rfl | ⟨op, rfl⟩ | ⟨op, rfl⟩ | ⟨op, imm, rfl⟩ := hi
  · exact storeFrame8_of_unary inc8 (fun a fe => (inc_update (.inl rfl) a fe).control) rm
  · exact storeFrame8_of_unary dec8 (fun a fe => (dec_update (.inl rfl) a fe).control) rm
  · exact storeFrame8_of_unary neg8 (fun a fe => aluApply_control _ _ _ _) rm
  · exact storeFrame8_of_shift (count := fun _ => 1) fun s hf hr => (shift8 op rm s hf hr).1
  · exact storeFrame8_of_shift (count := fun s => s.reg8 .cl) fun s hf hr => (shift8 op rm s hf hr).2.1
  · exact storeFrame8_of_shift (count := fun _ => imm) fun s hf hr => (shift8 op rm s hf hr).2.2 imm

/-- The one-operand forms with flags and the shifts, at 16 bits. -/
theorem storeFrame16_flags {rm : Rm Reg16} {i : Instr} (hi : i = .incRm16 rm ∨ i = .decRm16 rm ∨ i = .negRm16 rm ∨
    (∃ op, i = shiftRm16By1Of op rm) ∨ (∃ op, i = shiftRm16ClOf op rm) ∨ ∃ op imm, i = shiftRm16ImmOf op rm imm) :
    StoreFrame16 i rm true := by
  obtain ⟨-, -, -, -, -, -, inc16, dec16, neg16, -⟩ := unaryForms
  obtain ⟨-, shift16⟩ := shiftForms
  obtain rfl | rfl | rfl | ⟨op, rfl⟩ | ⟨op, rfl⟩ | ⟨op, imm, rfl⟩ := hi
  · exact storeFrame16_of_unary inc16 (fun a fe => (inc_update (.inr rfl) a fe).control) rm
  · exact storeFrame16_of_unary dec16 (fun a fe => (dec_update (.inr rfl) a fe).control) rm
  · exact storeFrame16_of_unary neg16 (fun a fe => aluApply_control _ _ _ _) rm
  · exact storeFrame16_of_shift (count := fun _ => 1) fun s hf hr => (shift16 op rm s hf hr).1
  · exact storeFrame16_of_shift (count := fun s => s.reg8 .cl) fun s hf hr => (shift16 op rm s hf hr).2.1
  · exact storeFrame16_of_shift (count := fun _ => imm) fun s hf hr => (shift16 op rm s hf hr).2.2 imm

/-- NOT and the stores of MOV, at 8 bits. -/
theorem storeFrame8_plain {rm : Rm Reg8} {i : Instr}
    (hi : i = .notRm8 rm ∨ (∃ r, i = .movRm8R8 rm r) ∨ ∃ imm, i = .movRm8Imm8 rm imm) : StoreFrame8 i rm false := by
  obtain ⟨-, -, -, -, -, not8, -⟩ := unaryForms
  obtain ⟨movR, -, -, -, movImm, -⟩ := moveForms
  obtain rfl | ⟨r, rfl⟩ | ⟨imm, rfl⟩ := hi
  · exact frameLaw_of_next fun s hf hp => ⟨_, (not8 rm s hf hp.1).1 hp.2, frame_assign8 s _ rm _⟩
  · exact frameLaw_of_next fun s hf hp => ⟨_, movR rm r s hf hp.2, frame_assign8 s _ rm _⟩
  · exact frameLaw_of_next fun s hf hp => ⟨_, movImm rm imm s hf hp.2, frame_assign8 s _ rm _⟩

/-- NOT and the stores of MOV, at 16 bits. -/
theorem storeFrame16_plain {rm : Rm Reg16} {i : Instr}
    (hi : i = .notRm16 rm ∨ (∃ r, i = .movRm16R16 rm r) ∨ (∃ imm, i = .movRm16Imm16 rm imm) ∨ i = .movRm16Es rm ∨
      i = .movRm16Cs rm ∨ i = .movRm16Ss rm ∨ i = .movRm16Ds rm) : StoreFrame16 i rm false := by
  obtain ⟨-, -, -, -, -, -, -, -, -, not16⟩ := unaryForms
  obtain ⟨-, movR, -, -, -, movImm, -⟩ := moveForms
  obtain ⟨movS, -⟩ := segmentRegisterMoves
  obtain rfl | ⟨r, rfl⟩ | ⟨imm, rfl⟩ | rfl | rfl | rfl | rfl := hi
  · exact frameLaw_of_next fun s hf hp => ⟨_, (not16 rm s hf hp.1).1 hp.2, frame_assign16 s _ rm _⟩
  · exact frameLaw_of_next fun s hf hp => ⟨_, movR rm r s hf hp.2, frame_assign16 s _ rm _⟩
  · exact frameLaw_of_next fun s hf hp => ⟨_, movImm rm imm s hf hp.2, frame_assign16 s _ rm _⟩
  · exact frameLaw_of_next fun s hf hp => ⟨_, (movS rm s hf hp.2).1, frame_assign16 s _ rm _⟩
  · exact frameLaw_of_next fun s hf hp =>
      let ⟨_, store, _⟩ := movS rm s hf hp.2
      ⟨_, store, frame_assign16 s _ rm _⟩
  · exact frameLaw_of_next fun s hf hp =>
      let ⟨_, _, store, _⟩ := movS rm s hf hp.2
      ⟨_, store, frame_assign16 s _ rm _⟩
  · exact frameLaw_of_next fun s hf hp =>
      let ⟨_, _, _, store⟩ := movS rm s hf hp.2
      ⟨_, store, frame_assign16 s _ rm _⟩

theorem frameLaw_xchgRm8 (rm : Rm Reg8) (r : Reg8) :
    FrameLaw (.xchgRm8R8 rm r) (fun s => canRead8 s rm ∧ canWrite8 s rm) (parentReg r :: destRegs8 rm) false
      (stored8 · rm) := by
  obtain ⟨xchg, -⟩ := exchangeAndConvert
  exact frameLaw_of_next fun s hf hp => ⟨_, xchg rm r s hf hp.1 hp.2,
    framedBy_setReg8 (framedBy_assign8 (framedBy_opened _ s _ _) (List.subset_cons_self _ _) (List.Subset.refl _) _)
      List.mem_cons_self _⟩

theorem frameLaw_xchgRm16 (rm : Rm Reg16) (r : Reg16) :
    FrameLaw (.xchgRm16R16 rm r) (fun s => canRead16 s rm ∧ canWrite16 s rm) (r :: destRegs16 rm) false
      (stored16 · rm) := by
  obtain ⟨-, xchg, -⟩ := exchangeAndConvert
  exact frameLaw_of_next fun s hf hp => ⟨_, xchg rm r s hf hp.1 hp.2,
    framedBy_setReg16 (framedBy_assign16 (framedBy_opened _ s _ _) (List.subset_cons_self _ _) (List.Subset.refl _) _)
      List.mem_cons_self _⟩

/-! ### String elements -/

section
variable {s t : State} {stored : List Nat} (n : Word)

/-- The pointers of a MOVS or CMPS moved. -/
theorem frame_moved_both {f : Reach} (hf : f.regs = [.si, .di]) (h : framedBy s t f stored) :
    framedBy s (moved s n true true t) f stored :=
  framedBy_moved n (fun _ => by rw [hf]; decide) (fun _ => by rw [hf]; decide) h

/-- The pointer of a STOS, SCAS or INS moved. -/
theorem frame_moved_di {f : Reach} (hf : f.regs = [.di]) (h : framedBy s t f stored) :
    framedBy s (moved s n false true t) f stored :=
  framedBy_moved n nofun (fun _ => by rw [hf]; decide) h

end

theorem frame_putElement8 (s : State) {t : State} {f : Reach} (h : framedBy s t f (element8 s)) (v : Byte) :
    framedBy s (t.putByte s.sregs.es s.regs.di v) f (element8 s) :=
  framedBy_putByte h (List.mem_singleton.mpr rfl) v

theorem frame_putElement16 (s : State) {t : State} {f : Reach} (h : framedBy s t f (element16 s)) (v : Word) :
    framedBy s (t.putWord s.sregs.es s.regs.di v) f (element16 s) :=
  framedBy_putWord h (List.Subset.refl _) v

/-- One element of a string instruction, run without a repeat prefix. -/
theorem reachLaw_of_element {i : Instr} {c : Bool} {body : State → Res Unit} {pre : State → Prop} {f : Reach}
    {stored : State → List Nat} (he : ∀ s, exec i s = (repeated c body s).outcome)
    (h : ∀ s, pre s → ∃ u, body s = .ok () u ∧ framedBy s u f (stored s)) :
    ReachLaw i (fun s => s.rep = .none ∧ pre s) f stored :=
  reachLaw_of_next fun s _ hp => by
    obtain ⟨u, hu, hs⟩ := h s hp.2
    refine ⟨u, ?_, hs⟩
    rw [he, repeated_of_none c body hp.1, hu]
    rfl

/-- Settles O58. -/
theorem frameOfStoringForms : Obligations.FrameOfStoringForms := by
  obtain ⟨-, alu8, alu16, -⟩ := aluRegisterForms
  obtain ⟨-, -, imm8, -, -, imm16⟩ := aluImmediateForms
  obtain ⟨-, -, -, -, -, -, -, -, moffs⟩ := moveForms
  refine ⟨fun op rm r hop => ?_, fun op rm r hop => ?_, fun op rm imm hop => ⟨?_, ?_⟩,
    fun op rm hop => ⟨fun imm => ?_, fun imm => ?_⟩, fun rm i => storeFrame8_flags, fun rm i => storeFrame16_flags,
    fun rm i => storeFrame8_plain, fun rm i => storeFrame16_plain, frameLaw_xchgRm8, frameLaw_xchgRm16,
    fun a => ⟨?_, ?_⟩, ?_, ?_, ?_, ?_, ?_, ?_⟩
  · exact frameLaw_of_next fun s hf hp => ⟨_, alu8 op rm r s hf hp.1 fun _ => hp.2, frame_aluDone8 hop s _ rm _ _⟩
  · exact frameLaw_of_next fun s hf hp => ⟨_, alu16 op rm r s hf hp.1 fun _ => hp.2, frame_aluDone16 hop s _ rm _ _⟩
  · exact frameLaw_of_next fun s hf hp =>
      ⟨_, (imm8 op rm imm s hf hp.1 fun _ => hp.2).1, frame_aluDone8 hop s _ rm _ _⟩
  · exact frameLaw_of_next fun s hf hp =>
      ⟨_, (imm8 op rm imm s hf hp.1 fun _ => hp.2).2, frame_aluDone8 hop s _ rm _ _⟩
  · exact frameLaw_of_next fun s hf hp =>
      ⟨_, (imm16 op rm s hf hp.1 fun _ => hp.2).1 imm, frame_aluDone16 hop s _ rm _ _⟩
  · exact frameLaw_of_next fun s hf hp =>
      ⟨_, (imm16 op rm s hf hp.1 fun _ => hp.2).2 imm, frame_aluDone16 hop s _ rm _ _⟩
  · exact frameLaw_of_next fun s _ hp =>
      let ⟨_, _, store, _⟩ := moffs a s
      ⟨_, store hp, framedBy_putByte (framedBy_refl s _ _) (List.mem_singleton.mpr rfl) _⟩
  · exact frameLaw_of_next fun s _ hp =>
      let ⟨_, _, _, store⟩ := moffs a s
      ⟨_, store hp, framedBy_putWord (framedBy_refl s _ _) (List.Subset.refl _) _⟩
  · exact reachLaw_of_element (fun _ => rfl) fun s hp =>
      ⟨_, movs8_of_open hp.1 hp.2, frame_moved_both 1 rfl (frame_putElement8 s (framedBy_refl s _ _) _)⟩
  · exact reachLaw_of_element (fun _ => rfl) fun s hp =>
      ⟨_, movs16_of_open hp.1 hp.2, frame_moved_both 2 rfl (frame_putElement16 s (framedBy_refl s _ _) _)⟩
  · exact reachLaw_of_element (fun _ => rfl) fun s hp =>
      ⟨_, stos8_of_open hp, frame_moved_di 1 rfl (frame_putElement8 s (framedBy_refl s _ _) _)⟩
  · exact reachLaw_of_element (fun _ => rfl) fun s hp =>
      ⟨_, stos16_of_open hp, frame_moved_di 2 rfl (frame_putElement16 s (framedBy_refl s _ _) _)⟩
  · exact reachLaw_of_element (fun _ => rfl) fun s hp =>
      ⟨_, ins8_of_open hp, frame_moved_di 1 rfl
        (frame_putElement8 s (framedBy_ports (framedBy_refl s _ _) rfl _) _)⟩
  · exact reachLaw_of_element (fun _ => rfl) fun s hp =>
      ⟨_, ins16_of_open hp, frame_moved_di 2 rfl
        (frame_putElement16 s (framedBy_ports (framedBy_refl s _ _) rfl _) _)⟩

end Sys2Proof.Machine
end

section
/-! The frames of the forms that store nothing (40 section 3, 41, 42, 45 section 2, 46, 48 section 6, 49). -/

namespace Sys2Proof.Machine
open Claims

/-! ### Updates of registers and flags -/

theorem framedBy_regs {s t : State} {f : Reach} {stored : List Nat} (h : framedBy s t f stored) {g : Regs}
    (hg : ∀ r, r ∉ f.regs → g.get16 r = t.regs.get16 r) : framedBy s { t with regs := g } f stored := by
  obtain ⟨hr, hs, hfe, hc, hm, hp, hb⟩ := h
  exact ⟨fun r hn => (hg r hn).trans (hr r hn), hs, hfe, hc, hm, hp, hb⟩

/-- Registers of the state itself replaced, memory untouched. -/
theorem frame_regs (s : State) {regs : List Reg16} {g : Regs} (hg : ∀ r, r ∉ regs → g.get16 r = s.regs.get16 r) :
    framedBy s { s with regs := g } { regs := regs } [] :=
  framedBy_regs (framedBy_refl s _ _) hg

theorem frame_setReg8 (s : State) (r : Reg8) (v : Byte) : framedBy s (s.setReg8 r v) { regs := [parentReg r] } [] :=
  framedBy_setReg8 (framedBy_refl s _ _) (List.mem_singleton.mpr rfl) v

theorem frame_setReg16 (s : State) (r : Reg16) (v : Word) : framedBy s (s.setReg16 r v) { regs := [r] } [] :=
  framedBy_setReg16 (framedBy_refl s _ _) (List.mem_singleton.mpr rfl) v

theorem frame_opened_setReg8 (s : State) (m : ModRM) (r : Reg8) (v : Byte) :
    framedBy s ((opened m s).setReg8 r v) { regs := [parentReg r] } [] :=
  framedBy_setReg8 (framedBy_opened m s _ _) (List.mem_singleton.mpr rfl) v

theorem frame_opened_setReg16 (s : State) (m : ModRM) (r : Reg16) (v : Word) :
    framedBy s ((opened m s).setReg16 r v) { regs := [r] } [] :=
  framedBy_setReg16 (framedBy_opened m s _ _) (List.mem_singleton.mpr rfl) v

theorem frame_setFlags {s : State} (regs : List Reg16) {fe : FlagEngine} (h : sameControl s.fe fe) :
    framedBy s (s.setFlags fe) { regs := regs, status := true } [] :=
  framedBy_setFlags (framedBy_refl s _ _) rfl h

theorem frame_opened_setFlags {s : State} (m : ModRM) (regs : List Reg16) {fe : FlagEngine} (h : sameControl s.fe fe) :
    framedBy s ((opened m s).setFlags fe) { regs := regs, status := true } [] :=
  framedBy_setFlags (framedBy_opened m s _ _) rfl h

/-- A result in AX or in the named register, with flags. -/
theorem frame_opened_result {s : State} (m : ModRM) (r : Reg16) (v : Word) {fe : FlagEngine} (h : sameControl s.fe fe) :
    framedBy s (((opened m s).setFlags fe).setReg16 r v) { regs := [r], status := true } [] :=
  framedBy_setReg16 (frame_opened_setFlags m _ h) (List.mem_singleton.mpr rfl) v

/-- A result in AX and DX, with flags. -/
theorem frame_opened_pair {s : State} (m : ModRM) (a d : Word) {fe : FlagEngine} (h : sameControl s.fe fe) :
    framedBy s ((((opened m s).setFlags fe).setReg16 .ax a).setReg16 .dx d) { regs := [.ax, .dx], status := true } [] :=
  framedBy_setReg16 (framedBy_setReg16 (frame_opened_setFlags m _ h) (r := .ax) (by decide) a) (r := .dx) (by decide) d

/-- An operation of the ALU with a register as destination; CMP writes the flags alone. -/
theorem frame_aluDone8_reg {s t : State} (op : AluOp) (r : Reg8) (a b : Byte)
    (h : framedBy s t { regs := [parentReg r], status := true } []) (hfe : t.fe = s.fe) :
    framedBy s (aluDone8 op (op.apply a b s.fe) s (.reg r) t) { regs := [parentReg r], status := true } [] := by
  have flags := framedBy_setFlags h rfl (by rw [hfe]; exact aluApply_control op a b s.fe)
  unfold aluDone8
  split
  · exact flags
  · exact framedBy_setReg8 flags (List.mem_singleton.mpr rfl) _

theorem frame_aluDone16_reg {s t : State} (op : AluOp) (r : Reg16) (a b : Word)
    (h : framedBy s t { regs := [r], status := true } []) (hfe : t.fe = s.fe) :
    framedBy s (aluDone16 op (op.apply a b s.fe) s (.reg r) t) { regs := [r], status := true } [] := by
  have flags := framedBy_setFlags h rfl (by rw [hfe]; exact aluApply_control op a b s.fe)
  unfold aluDone16
  split
  · exact flags
  · exact framedBy_setReg16 flags (List.mem_singleton.mpr rfl) _

/-! ### Comparisons and tests -/

/-- The frame law of a form that writes the status flags alone. -/
def FlagsOnly (i : Instr) (pre : State → Prop) : Prop := FrameLaw i pre [] true fun _ => []

theorem flagsOnly_of_exec {i : Instr} {pre : State → Prop} (m : ModRM)
    (h : ∀ s, fresh s → pre s → ∃ fe, exec i s = .next ((opened m s).setFlags fe) ∧ sameControl s.fe fe) :
    FlagsOnly i pre :=
  frameLaw_of_next fun s hf hp => by
    obtain ⟨fe, he, hc⟩ := h s hf hp
    exact ⟨_, he, frame_opened_setFlags m [] hc⟩

theorem flagsOnly_rm8R8 (rm : Rm Reg8) (r : Reg8) : FlagsOnly (.cmpRm8R8 rm r) (canRead8 · rm) ∧
    FlagsOnly (.cmpR8Rm8 r rm) (canRead8 · rm) ∧ FlagsOnly (.testRm8R8 rm r) (canRead8 · rm) := by
  obtain ⟨-, cmpRm, -, -, -, cmpR, -⟩ := aluRegisterForms
  obtain ⟨test, -⟩ := testForms
  exact ⟨flagsOnly_of_exec _ fun s hf hp => ⟨_, cmpRm .cmp rm r s hf hp nofun, aluApply_control _ _ _ _⟩,
    flagsOnly_of_exec _ fun s hf hp => ⟨_, cmpR .cmp r rm s hf hp, aluApply_control _ _ _ _⟩,
    flagsOnly_of_exec _ fun s hf hp => ⟨_, test rm r s hf hp, aluApply_control _ _ _ _⟩⟩

theorem flagsOnly_rm16R16 (rm : Rm Reg16) (r : Reg16) : FlagsOnly (.cmpRm16R16 rm r) (canRead16 · rm) ∧
    FlagsOnly (.cmpR16Rm16 r rm) (canRead16 · rm) ∧ FlagsOnly (.testRm16R16 rm r) (canRead16 · rm) := by
  obtain ⟨-, -, cmpRm, -, -, -, cmpR⟩ := aluRegisterForms
  obtain ⟨-, test, -⟩ := testForms
  exact ⟨flagsOnly_of_exec _ fun s hf hp => ⟨_, cmpRm .cmp rm r s hf hp nofun, aluApply_control _ _ _ _⟩,
    flagsOnly_of_exec _ fun s hf hp => ⟨_, cmpR .cmp r rm s hf hp, aluApply_control _ _ _ _⟩,
    flagsOnly_of_exec _ fun s hf hp => ⟨_, test rm r s hf hp, aluApply_control _ _ _ _⟩⟩

theorem flagsOnly_rm8Imm8 (rm : Rm Reg8) (imm : Byte) : FlagsOnly (.cmpRm8Imm8 rm imm) (canRead8 · rm) ∧
    FlagsOnly (.cmpRm8Imm8Op82 rm imm) (canRead8 · rm) ∧ FlagsOnly (.testRm8Imm8 rm imm) (canRead8 · rm) := by
  obtain ⟨-, -, cmp, -⟩ := aluImmediateForms
  obtain ⟨-, -, -, -, test, -⟩ := testForms
  exact ⟨flagsOnly_of_exec _ fun s hf hp => ⟨_, (cmp .cmp rm imm s hf hp nofun).1, aluApply_control _ _ _ _⟩,
    flagsOnly_of_exec _ fun s hf hp => ⟨_, (cmp .cmp rm imm s hf hp nofun).2, aluApply_control _ _ _ _⟩,
    flagsOnly_of_exec _ fun s hf hp => ⟨_, test rm imm s hf hp, aluApply_control _ _ _ _⟩⟩

theorem flagsOnly_rm16Imm16 (rm : Rm Reg16) (imm : Word) : FlagsOnly (.cmpRm16Imm16 rm imm) (canRead16 · rm) ∧
    FlagsOnly (.testRm16Imm16 rm imm) (canRead16 · rm) := by
  obtain ⟨-, -, -, -, -, cmp⟩ := aluImmediateForms
  obtain ⟨-, -, -, -, -, test⟩ := testForms
  exact ⟨flagsOnly_of_exec _ fun s hf hp => ⟨_, (cmp .cmp rm s hf hp nofun).1 imm, aluApply_control _ _ _ _⟩,
    flagsOnly_of_exec _ fun s hf hp => ⟨_, test rm imm s hf hp, aluApply_control _ _ _ _⟩⟩

theorem flagsOnly_rm16Imm8s (rm : Rm Reg16) (imm : Byte) : FlagsOnly (.cmpRm16Imm8s rm imm) (canRead16 · rm) := by
  obtain ⟨-, -, -, -, -, cmp⟩ := aluImmediateForms
  exact flagsOnly_of_exec _ fun s hf hp => ⟨_, (cmp .cmp rm s hf hp nofun).2 imm, aluApply_control _ _ _ _⟩

/-! ### Multiplication and division -/

theorem frameLaw_div8 {i : Instr} {m : ModRM} {rm : Rm Reg8} {n d : State → Nat} {x : State → Option (Byte × Byte)}
    (h : ∀ s, fresh s → canRead8 s rm → DivLaw8 i (opened m s) s (n s) (d s) (x s)) :
    FrameLaw i (fun s => canRead8 s rm ∧ x s ≠ none) [.ax] true fun _ => [] :=
  frameLaw_of_next fun s hf hp => by
    obtain ⟨⟨q, r⟩, hx⟩ := Option.ne_none_iff_exists'.mp hp.2
    obtain ⟨fe, he, hc, -⟩ := (h s hf hp.1).1 q r hx
    exact ⟨_, he, frame_opened_result m .ax _ hc⟩

theorem frameLaw_div16 {i : Instr} {m : ModRM} {rm : Rm Reg16} {n d : State → Nat} {x : State → Option (Word × Word)}
    (h : ∀ s, fresh s → canRead16 s rm → DivLaw16 i (opened m s) s (n s) (d s) (x s)) :
    FrameLaw i (fun s => canRead16 s rm ∧ x s ≠ none) [.ax, .dx] true fun _ => [] :=
  frameLaw_of_next fun s hf hp => by
    obtain ⟨⟨q, r⟩, hx⟩ := Option.ne_none_iff_exists'.mp hp.2
    obtain ⟨fe, he, hc, -⟩ := (h s hf hp.1).1 q r hx
    exact ⟨_, he, frame_opened_pair m _ _ hc⟩

theorem frameLaw_accumulator8 (rm : Rm Reg8) :
    FrameLaw (.mulRm8 rm) (canRead8 · rm) [.ax] true (fun _ => []) ∧
      FrameLaw (.imulRm8 rm) (canRead8 · rm) [.ax] true (fun _ => []) ∧
      FrameLaw (.divRm8 rm)
        (fun s => canRead8 s rm ∧ udivide 8 s.regs.ax.toNat (operand8 s rm).toNat ≠ none) [.ax] true (fun _ => []) ∧
      FrameLaw (.idivRm8 rm)
        (fun s => canRead8 s rm ∧ sdivide 8 s.regs.ax.toInt (operand8 s rm).toInt ≠ none) [.ax] true (fun _ => []) := by
  obtain ⟨mul8, -⟩ := multiplyForms
  obtain ⟨div8, -⟩ := divideForms
  exact ⟨frameLaw_of_next fun s hf hp => ⟨_, (mul8 rm s hf hp).1 _ _ _ rfl,
      frame_opened_result _ .ax _ (mul_update (.inl rfl) _ _ _).control⟩,
    frameLaw_of_next fun s hf hp => ⟨_, (mul8 rm s hf hp).2 _ _ _ rfl,
      frame_opened_result _ .ax _ (imul_update (.inl rfl) _ _ _).control⟩,
    frameLaw_div8 fun s hf hr => (div8 rm s hf hr).1, frameLaw_div8 fun s hf hr => (div8 rm s hf hr).2⟩

theorem frameLaw_accumulator16 (rm : Rm Reg16) :
    FrameLaw (.mulRm16 rm) (canRead16 · rm) [.ax, .dx] true (fun _ => []) ∧
      FrameLaw (.imulRm16 rm) (canRead16 · rm) [.ax, .dx] true (fun _ => []) ∧
      FrameLaw (.divRm16 rm)
        (fun s => canRead16 s rm ∧
          udivide 16 (s.regs.dx.toNat * 2 ^ 16 + s.regs.ax.toNat) (operand16 s rm).toNat ≠ none)
        [.ax, .dx] true (fun _ => []) ∧
      FrameLaw (.idivRm16 rm)
        (fun s => canRead16 s rm ∧
          sdivide 16 (s.regs.dx.toInt * 2 ^ 16 + s.regs.ax.toNat) (operand16 s rm).toInt ≠ none)
        [.ax, .dx] true (fun _ => []) := by
  obtain ⟨-, mul16, -⟩ := multiplyForms
  obtain ⟨-, div16⟩ := divideForms
  exact ⟨frameLaw_of_next fun s hf hp => ⟨_, (mul16 rm s hf hp).1 _ _ _ rfl,
      frame_opened_pair _ _ _ (mul_update (.inr rfl) _ _ _).control⟩,
    frameLaw_of_next fun s hf hp => ⟨_, (mul16 rm s hf hp).2 _ _ _ rfl,
      frame_opened_pair _ _ _ (imul_update (.inr rfl) _ _ _).control⟩,
    frameLaw_div16 fun s hf hr => (div16 rm s hf hr).1, frameLaw_div16 fun s hf hr => (div16 rm s hf hr).2⟩

/-! ### Moves, loads and exchanges -/

theorem frameLaw_exchangeAx : FrameLaw .xchgAxCx (fun _ => True) [.ax, .cx] false (fun _ => []) ∧
    FrameLaw .xchgAxDx (fun _ => True) [.ax, .dx] false (fun _ => []) ∧
    FrameLaw .xchgAxBx (fun _ => True) [.ax, .bx] false (fun _ => []) ∧
    FrameLaw .xchgAxSp (fun _ => True) [.ax, .sp] false (fun _ => []) ∧
    FrameLaw .xchgAxBp (fun _ => True) [.ax, .bp] false (fun _ => []) ∧
    FrameLaw .xchgAxSi (fun _ => True) [.ax, .si] false (fun _ => []) ∧
    FrameLaw .xchgAxDi (fun _ => True) [.ax, .di] false (fun _ => []) := by
  obtain ⟨-, -, xchg, -⟩ := exchangeAndConvert
  simp only [forall_and] at xchg
  obtain ⟨xCx, xDx, xBx, xSp, xBp, xSi, xDi⟩ := xchg
  refine ⟨frameLaw_of_next fun s _ _ => ⟨_, xCx s, frame_regs s ?_⟩,
    frameLaw_of_next fun s _ _ => ⟨_, xDx s, frame_regs s ?_⟩,
    frameLaw_of_next fun s _ _ => ⟨_, xBx s, frame_regs s ?_⟩,
    frameLaw_of_next fun s _ _ => ⟨_, xSp s, frame_regs s ?_⟩,
    frameLaw_of_next fun s _ _ => ⟨_, xBp s, frame_regs s ?_⟩,
    frameLaw_of_next fun s _ _ => ⟨_, xSi s, frame_regs s ?_⟩,
    frameLaw_of_next fun s _ _ => ⟨_, xDi s, frame_regs s ?_⟩⟩ <;>
  · intro r hr
    cases r <;> simp [Regs.get16] at hr ⊢

theorem reachLaw_loadPointer (r : Reg16) (m : MemEA) :
    ReachLaw (.ldsR16M r m) (fun s => pairReadable s m ∧ s.hooks.segLoadFault .ds (pairHigh s m) = none)
        { regs := [r], sregs := [.ds] } (fun _ => []) ∧
      ReachLaw (.lesR16M r m) (fun s => pairReadable s m ∧ s.hooks.segLoadFault .es (pairHigh s m) = none)
        { regs := [r], sregs := [.es] } (fun _ => []) ∧
      ReachLaw (.boundR16M r m)
        (fun s => pairReadable s m ∧ (pairLow s m).toInt ≤ (s.reg16 r).toInt ∧ (s.reg16 r).toInt ≤ (pairHigh s m).toInt)
        {} (fun _ => []) := by
  obtain ⟨-, load, bound⟩ := addressLoads
  exact ⟨reachLaw_of_next fun s hf hp => ⟨_, (load r m s hf hp.1).1.1 hp.2, framedBy_setSReg (framedBy_setReg16
      (framedBy_opened _ s _ _) (List.mem_singleton.mpr rfl) _) (r := .ds) (List.mem_singleton.mpr rfl) _⟩,
    reachLaw_of_next fun s hf hp => ⟨_, (load r m s hf hp.1).2.1 hp.2, framedBy_setSReg (framedBy_setReg16
      (framedBy_opened _ s _ _) (List.mem_singleton.mpr rfl) _) (r := .es) (List.mem_singleton.mpr rfl) _⟩,
    reachLaw_of_next fun s hf hp => ⟨_, (bound r m s hf hp.1).1 hp.2, framedBy_opened _ s _ _⟩⟩

theorem reachLaw_movSReg (rm : Rm Reg16) :
    ReachLaw (.movEsRm16 rm) (fun s => canRead16 s rm ∧ s.hooks.segLoadFault .es (operand16 s rm) = none)
        { sregs := [.es] } (fun _ => []) ∧
      ReachLaw (.movCsRm16 rm) (fun s => canRead16 s rm ∧ s.bus.isExecutable (operand16 s rm) = true)
        { sregs := [.cs] } (fun _ => []) ∧
      ReachLaw (.movSsRm16 rm) (fun s => canRead16 s rm ∧ s.hooks.segLoadFault .ss (operand16 s rm) = none)
        { sregs := [.ss] } (fun _ => []) ∧
      ReachLaw (.movDsRm16 rm) (fun s => canRead16 s rm ∧ s.hooks.segLoadFault .ds (operand16 s rm) = none)
        { sregs := [.ds] } (fun _ => []) := by
  obtain ⟨-, load, -⟩ := segmentRegisterMoves
  have frame (r : SReg) (m : ModRM) (s : State) (v : Word) :
      framedBy s ((opened m s).setSReg r v) { sregs := [r] } [] :=
    framedBy_setSReg (framedBy_opened m s _ _) (List.mem_singleton.mpr rfl) v
  exact ⟨reachLaw_of_next fun s hf hp => ⟨_, (load rm s hf hp.1).1.1 hp.2, frame .es _ s _⟩,
    reachLaw_of_next fun s hf hp => ⟨_, (load rm s hf hp.1).2.1 hp.2, frame .cs _ s _⟩,
    reachLaw_of_next fun s hf hp =>
      let ⟨_, _, ⟨loadSs, _⟩, _⟩ := load rm s hf hp.1
      ⟨_, loadSs hp.2, frame .ss _ s _⟩,
    reachLaw_of_next fun s hf hp =>
      let ⟨_, _, _, loadDs, _⟩ := load rm s hf hp.1
      ⟨_, loadDs hp.2, frame .ds _ s _⟩⟩

/-! ### Ports -/

theorem reachLaw_inByte {i : Instr} {port : State → Word} (h : ∀ s, inByte i s (port s)) :
    ReachLaw i (fun _ => True) { regs := [.ax], ports := true } fun _ => [] :=
  reachLaw_of_next fun s _ _ => ⟨_, h s, framedBy_setReg8 (r := .al) (framedBy_ports (framedBy_refl s _ _) rfl _)
    (by decide) _⟩

theorem reachLaw_inWord {i : Instr} {port : State → Word} (h : ∀ s, inWord i s (port s)) :
    ReachLaw i (fun _ => True) { regs := [.ax], ports := true } fun _ => [] :=
  reachLaw_of_next fun s _ _ => ⟨_, h s, framedBy_setReg16 (r := .ax) (framedBy_ports (framedBy_refl s _ _) rfl _)
    (by decide) _⟩

theorem reachLaw_out {i : Instr} {l : State → List (Word × Byte)} (h : ∀ s, exec i s = .next (sentPort s (l s))) :
    ReachLaw i (fun _ => True) { ports := true } fun _ => [] :=
  reachLaw_of_next fun s _ _ => ⟨_, h s, framedBy_ports (framedBy_refl s _ _) rfl _⟩

/-- Settles O59. -/
theorem frameOfFormsWithoutStore : Obligations.FrameOfFormsWithoutStore := by
  obtain ⟨-, -, -, -, -, aluR8, aluR16⟩ := aluRegisterForms
  obtain ⟨aluAl, aluAx, -⟩ := aluImmediateForms
  obtain ⟨-, -, testAl, testAx, -⟩ := testForms
  obtain ⟨incR, decR, -⟩ := unaryForms
  obtain ⟨-, -, imul⟩ := multiplyForms
  obtain ⟨-, -, movR8, movR16, -, -, movImm8, movImm16, moffs⟩ := moveForms
  obtain ⟨lea, -⟩ := addressLoads
  obtain ⟨-, -, -, convert⟩ := exchangeAndConvert
  have flagImages := flagImageForms
  simp only [Obligations.FlagImageForms, forall_and] at flagImages
  obtain ⟨-, lahf, sahf, -⟩ := flagImages
  obtain ⟨xCx, xDx, xBx, xSp, xBp, xSi, xDi⟩ := frameLaw_exchangeAx
  have ports := portForms
  unfold Obligations.PortForms at ports
  simp only [forall_and] at ports
  obtain ⟨in8Imm, in8Dx, in16Imm, in16Dx, out8Imm, out8Dx, out16Imm, out16Dx⟩ := ports
  refine ⟨flagsOnly_rm8R8, flagsOnly_rm16R16, flagsOnly_rm8Imm8, flagsOnly_rm16Imm16, flagsOnly_rm16Imm8s,
    fun op r rm => ?_, fun op r rm => ?_, fun op imm => ?_, fun op imm => ?_, fun imm => ?_, fun imm => ?_,
    fun r => ⟨?_, ?_⟩, frameLaw_accumulator8, frameLaw_accumulator16, fun r rm => ⟨fun imm => ?_, fun imm => ?_, ?_⟩,
    fun r rm => ?_, fun r imm => ?_, fun r imm => ?_, fun a => ⟨?_, ?_⟩, fun r m => ?_, ?_, ?_, ?_, xCx, xDx, xBx, xSp,
    xBp, xSi, xDi, ?_, ?_, reachLaw_loadPointer, reachLaw_movSReg,
    fun p => ⟨?_, ?_, ?_, ?_⟩, ?_, ?_, ?_, ?_, ?_, ?_, ?_,
    ?_, ?_, ?_, ?_, ?_⟩
  · exact frameLaw_of_next fun s hf hp =>
      ⟨_, aluR8 op r rm s hf hp, frame_aluDone8_reg op r _ _ (framedBy_opened _ s _ _) rfl⟩
  · exact frameLaw_of_next fun s hf hp =>
      ⟨_, aluR16 op r rm s hf hp, frame_aluDone16_reg op r _ _ (framedBy_opened _ s _ _) rfl⟩
  · exact frameLaw_of_next fun s _ _ => ⟨_, aluAl op imm s, frame_aluDone8_reg op .al _ _ (framedBy_refl s _ _) rfl⟩
  · exact frameLaw_of_next fun s _ _ => ⟨_, aluAx op imm s, frame_aluDone16_reg op .ax _ _ (framedBy_refl s _ _) rfl⟩
  · exact frameLaw_of_next fun s _ _ => ⟨_, testAl imm s, frame_setFlags [] (aluApply_control _ _ _ _)⟩
  · exact frameLaw_of_next fun s _ _ => ⟨_, testAx imm s, frame_setFlags [] (aluApply_control _ _ _ _)⟩
  · exact frameLaw_of_next fun s _ _ => ⟨_, incR r s, framedBy_setReg16
      (frame_setFlags _ (inc_update (.inr rfl) _ _).control) (List.mem_singleton.mpr rfl) _⟩
  · exact frameLaw_of_next fun s _ _ => ⟨_, decR r s, framedBy_setReg16
      (frame_setFlags _ (dec_update (.inr rfl) _ _).control) (List.mem_singleton.mpr rfl) _⟩
  · exact frameLaw_of_next fun s hf hp =>
      ⟨_, (imul r rm s hf hp).1 imm, frame_opened_result _ r _ (imul_update (.inr rfl) _ _ _).control⟩
  · exact frameLaw_of_next fun s hf hp =>
      ⟨_, (imul r rm s hf hp).2 imm, frame_opened_result _ r _ (imul_update (.inr rfl) _ _ _).control⟩
  · exact frameLaw_of_next fun s hf hp => ⟨_, movR16 r rm s hf hp, frame_opened_setReg16 s _ r _⟩
  · exact frameLaw_of_next fun s hf hp => ⟨_, movR8 r rm s hf hp, frame_opened_setReg8 s _ r _⟩
  · exact frameLaw_of_next fun s _ _ => ⟨_, movImm8 r imm s, frame_setReg8 s r _⟩
  · exact frameLaw_of_next fun s _ _ => ⟨_, movImm16 r imm s, frame_setReg16 s r _⟩
  · exact frameLaw_of_next fun s _ hp => ⟨_, (moffs a s).1 hp, frame_setReg8 s .al _⟩
  · exact frameLaw_of_next fun s _ hp => ⟨_, (moffs a s).2.1 hp, frame_setReg16 s .ax _⟩
  · exact frameLaw_of_next fun s hf _ => ⟨_, lea r m s hf, frame_opened_setReg16 s _ r _⟩
  · exact frameLaw_of_next fun s _ hp => ⟨_, (convert s).1 hp, frame_setReg8 s .al _⟩
  · exact frameLaw_of_next fun s _ _ => ⟨_, (convert s).2.1, frame_setReg16 s .ax _⟩
  · exact frameLaw_of_next fun s _ _ => ⟨_, (convert s).2.2, frame_setReg16 s .dx _⟩
  · exact frameLaw_of_next fun s _ _ => ⟨_, lahf s, frame_setReg8 s .ah _⟩
  · exact frameLaw_of_next fun s _ _ => ⟨_, sahf s, frame_setFlags [] ⟨rfl, rfl, rfl⟩⟩
  · exact reachLaw_inByte fun s => in8Imm s p
  · exact reachLaw_inWord fun s => in16Imm s p
  · exact reachLaw_out fun s => out8Imm s p
  · exact reachLaw_out fun s => out16Imm s p
  · exact reachLaw_inByte fun s => in8Dx s 0
  · exact reachLaw_inWord fun s => in16Dx s 0
  · exact reachLaw_out fun s => out8Dx s 0
  · exact reachLaw_out fun s => out16Dx s 0
  · exact reachLaw_of_element (fun _ => rfl) fun s hp => ⟨_, lods8_of_open hp, framedBy_moved 1 (fun _ => by decide)
      nofun (framedBy_setReg8 (r := .al) (framedBy_refl s _ _) (by decide) _)⟩
  · exact reachLaw_of_element (fun _ => rfl) fun s hp => ⟨_, lods16_of_open hp, framedBy_moved 2 (fun _ => by decide)
      nofun (framedBy_setReg16 (r := .ax) (framedBy_refl s _ _) (by decide) _)⟩
  · exact reachLaw_of_element (fun _ => rfl) fun s hp => ⟨_, outs8_of_open hp, framedBy_moved 1 (fun _ => by decide)
      nofun (framedBy_ports (framedBy_refl s _ _) rfl _)⟩
  · exact reachLaw_of_element (fun _ => rfl) fun s hp => ⟨_, outs16_of_open hp, framedBy_moved 2 (fun _ => by decide)
      nofun (framedBy_ports (framedBy_refl s _ _) rfl _)⟩
  · exact reachLaw_of_element (fun _ => rfl) fun s hp => ⟨_, cmps8_of_open hp.1 hp.2,
      frame_moved_both 1 rfl (frame_setFlags _ (cmpFlags_update (.inl rfl) _ _ _).control)⟩
  · exact reachLaw_of_element (fun _ => rfl) fun s hp => ⟨_, cmps16_of_open hp.1 hp.2,
      frame_moved_both 2 rfl (frame_setFlags _ (cmpFlags_update (.inr rfl) _ _ _).control)⟩
  · exact reachLaw_of_element (fun _ => rfl) fun s hp => ⟨_, scas8_of_open hp,
      frame_moved_di 1 rfl (frame_setFlags _ (cmpFlags_update (.inl rfl) _ _ _).control)⟩
  · exact reachLaw_of_element (fun _ => rfl) fun s hp => ⟨_, scas16_of_open hp,
      frame_moved_di 2 rfl (frame_setFlags _ (cmpFlags_update (.inr rfl) _ _ _).control)⟩

end Sys2Proof.Machine
end

section
/-! The frames of the stack forms (47, 48 sections 4 and 5, 45 section 3). -/

namespace Sys2Proof.Machine
open Claims

theorem frame_pushed (v : Word) (s : State) : framedBy s (pushed v s) { regs := [.sp] } (stackCells s) :=
  framedBy_pushed (framedBy_refl s _ _) (List.mem_singleton.mpr rfl) rfl rfl (List.Subset.refl _) v

theorem frame_pushed_opened (m : ModRM) (v : Word) (s : State) :
    framedBy s (pushed v (opened m s)) { regs := [.sp] } (stackCells s) :=
  framedBy_pushed (framedBy_opened m s _ _) (List.mem_singleton.mpr rfl) rfl rfl (List.Subset.refl _) v

/-- Two words pushed, CS and IP loaded. -/
theorem frame_calledFar (s : State) (d : OperandCache) (sel off : Word) :
    framedBy s (calledFar s d sel off) { regs := [.sp], sregs := [.cs] } (twoStackCells s) := by
  have first : framedBy s (pushed s.sregs.cs { s with doc := d }) { regs := [.sp], sregs := [.cs] } (twoStackCells s) :=
    framedBy_pushed (framedBy_doc (framedBy_refl s _ _) d) (List.mem_singleton.mpr rfl) rfl rfl
      (List.subset_append_left _ _) s.sregs.cs
  have both := framedBy_pushed first (List.mem_singleton.mpr rfl) rfl (sub_two_sub_two s.regs.sp)
    (List.subset_append_right _ _) s.ip
  exact framedBy_setSReg both (r := .cs) (List.mem_singleton.mpr rfl) sel

theorem frame_setSP (v : Word) (s : State) : framedBy s (s.setSP v) { regs := [.sp] } [] :=
  framedBy_setSP (framedBy_refl s _ _) (List.mem_singleton.mpr rfl) v

/-- CS, IP and SP loaded. -/
theorem frame_returnedFar (s : State) (sel off sp : Word) :
    framedBy s (((s.setSReg .cs sel).setIP off).setSP sp) { regs := [.sp], sregs := [.cs] } [] :=
  framedBy_setSP (framedBy_setSReg (framedBy_refl s _ _) (r := .cs) (List.mem_singleton.mpr rfl) sel)
    (List.mem_singleton.mpr rfl) sp

/-- The frame law of a form that pushes one word. -/
def PushFrame (i : Instr) (pre : State → Prop) : Prop := FrameLaw i pre [.sp] false stackCells

theorem pushFrame_of_next {i : Instr} {pre : State → Prop} {v : State → Word}
    (h : ∀ s, pre s → exec i s = .next (pushed (v s) s)) : PushFrame i pre :=
  frameLaw_of_next fun s _ hp => ⟨_, h s hp, frame_pushed _ s⟩

theorem pushFrame_pushRm16 (rm : Rm Reg16) : PushFrame (.pushRm16 rm) fun s => canRead16 s rm ∧ canPush s := by
  obtain ⟨-, push, -⟩ := pushPopForms
  exact frameLaw_of_next fun s hf hp => ⟨_, push rm s hf hp.1 hp.2, frame_pushed_opened _ _ s⟩

theorem pushFrame_callRm16 (rm : Rm Reg16) : PushFrame (.callRm16 rm) fun s => canRead16 s rm ∧ canPush s := by
  obtain ⟨-, call, -⟩ := callAndReturnForms
  exact frameLaw_of_next fun s hf hp => ⟨_, call rm s hf hp.1 hp.2, frame_pushed_opened _ _ s⟩

theorem frameLaw_popRm16 (rm : Rm Reg16) :
    FrameLaw (.popRm16 rm) (fun s => canPop s 0 ∧ canWrite16 s rm) (.sp :: destRegs16 rm) false (stored16 · rm) := by
  obtain ⟨-, -, -, -, -, pop, -⟩ := pushPopForms
  exact frameLaw_of_next fun s hf hp => ⟨_, pop rm s hf hp.1 hp.2,
    framedBy_assign16 (framedBy_setSP (framedBy_opened _ s _ _) List.mem_cons_self _) (List.subset_cons_self _ _)
      (List.Subset.refl _) _⟩

/-- POP of a segment register whose value the host's check admits. -/
theorem reachLaw_popSReg {i : Instr} {r : SReg}
    (h : ∀ s, canPop s 0 → loadLaw r i s (s.setSP (s.regs.sp + 2)) (stacked s 0)) :
    ReachLaw i (fun s => canPop s 0 ∧ s.hooks.segLoadFault r (stacked s 0) = none) { regs := [.sp], sregs := [r] }
      fun _ => [] :=
  reachLaw_of_next fun s _ hp => ⟨_, (h s hp.1).1 hp.2,
    framedBy_setSReg (framedBy_setSP (framedBy_refl s _ _) (List.mem_singleton.mpr rfl) _)
      (List.mem_singleton.mpr rfl) _⟩

theorem reachLaw_pusha : ReachLaw .pusha (fun s => ∀ off, writable8 s s.sregs.ss off) { regs := [.sp] } fun s =>
    (List.range 8).flatMap fun k => wordCells s s.sregs.ss (s.regs.sp - BitVec.ofNat 16 (2 * (k + 1))) := by
  obtain ⟨-, -, -, -, -, -, pusha, -⟩ := pushPopForms
  refine reachLaw_of_next fun s _ hp => ⟨_, pusha s hp,
    framedBy_pushedAll (l := pushaWords s) (framedBy_refl s _ _) (List.mem_singleton.mpr rfl) rfl fun k hk a ha => ?_⟩
  exact List.mem_flatMap.mpr ⟨k, List.mem_range.mpr hk, ha⟩

theorem reachLaw_popa : ReachLaw .popa (fun s => ∀ off, readable8 s s.sregs.ss off)
    { regs := [.ax, .cx, .dx, .bx, .sp, .bp, .si, .di] } fun _ => [] := by
  obtain ⟨-, -, -, -, -, -, -, popa, -⟩ := pushPopForms
  refine reachLaw_of_next fun s _ hp => ⟨_, popa s hp, frame_regs s fun r hr => ?_⟩
  exact absurd (by cases r <;> decide) hr

theorem frameLaw_leave :
    FrameLaw .leave (fun s => readable16 s s.sregs.ss s.regs.bp) [.sp, .bp] false fun _ => [] := by
  obtain ⟨-, leave, -⟩ := enterAndLeave
  refine frameLaw_of_next fun s _ hp => ⟨_, leave s hp, frame_regs s fun r hr => ?_⟩
  cases r <;> simp [Regs.get16] at hr ⊢

theorem reachLaw_callFarDirect (off sel : Word) :
    ReachLaw (.callFarDirect off sel) (fun s => s.bus.isExecutable sel = true ∧ canPushTwo s)
      { regs := [.sp], sregs := [.cs] } twoStackCells := by
  obtain ⟨-, -, call, -⟩ := callAndReturnForms
  exact reachLaw_of_next fun s _ ⟨hx, h0, h2⟩ => ⟨_, call off sel s hx h0 h2, frame_calledFar s s.doc sel off⟩

theorem reachLaw_callFarMem (m : MemEA) :
    ReachLaw (.callFarMem m) (fun s => pairReadable s m ∧ s.bus.isExecutable (pairHigh s m) = true ∧ canPushTwo s)
      { regs := [.sp], sregs := [.cs] } twoStackCells := by
  obtain ⟨-, -, -, call, -⟩ := callAndReturnForms
  exact reachLaw_of_next fun s hf ⟨hr, hx, h0, h2⟩ => ⟨_, call m s hf hr hx h0 h2,
    frame_calledFar s (opened (modrmMem 3 m) s).doc (pairHigh s m) (pairLow s m)⟩

/-- Settles O60. -/
theorem frameOfStackForms : Obligations.FrameOfStackForms := by
  obtain ⟨pushR, -, pushImm16, pushImm8, popR, -⟩ := pushPopForms
  obtain ⟨-, -, pushS, popS⟩ := segmentRegisterMoves
  obtain ⟨callRel, -, -, -, returns, -⟩ := callAndReturnForms
  have flagImages := flagImageForms
  simp only [Obligations.FlagImageForms, forall_and] at flagImages
  obtain ⟨-, -, -, pushf, popf⟩ := flagImages
  refine ⟨fun r => pushFrame_of_next fun s hp => pushR r s hp,
    fun rm => ⟨pushFrame_pushRm16 rm, pushFrame_callRm16 rm, frameLaw_popRm16 rm⟩,
    fun imm => ⟨pushFrame_of_next fun s hp => pushImm16 imm s hp, ?_, ?_⟩,
    fun imm => pushFrame_of_next fun s hp => pushImm8 imm s hp, ?_, ?_, ?_, ?_, ?_, fun r => ?_, ?_, frameLaw_leave,
    reachLaw_callFarDirect, reachLaw_callFarMem, ?_, fun n => ?_, ?_, ?_, reachLaw_pusha, reachLaw_popa,
    reachLaw_popSReg fun s hp => (popS s hp).1, reachLaw_popSReg fun s hp => (popS s hp).2.1,
    reachLaw_popSReg fun s hp => (popS s hp).2.2⟩
  · exact frameLaw_of_next fun s _ hp => ⟨_, callRel imm s hp, frame_pushed s.ip s⟩
  · exact frameLaw_of_next fun s _ hp => ⟨_, (returns imm s hp).2.1, frame_setSP _ s⟩
  · exact pushFrame_of_next fun s hp => (pushS s hp).1
  · exact pushFrame_of_next fun s hp => (pushS s hp).2.1
  · exact pushFrame_of_next fun s hp =>
      let ⟨_, _, pushSs, _⟩ := pushS s hp
      pushSs
  · exact pushFrame_of_next fun s hp =>
      let ⟨_, _, _, pushDs⟩ := pushS s hp
      pushDs
  · exact pushFrame_of_next fun s hp => pushf s hp
  · exact frameLaw_of_next fun s _ hp => ⟨_, popR r s hp, framedBy_setReg16
      (framedBy_setSP (framedBy_refl s _ _) List.mem_cons_self _) (List.mem_cons_of_mem _ List.mem_cons_self) _⟩
  · exact frameLaw_of_next fun s _ hp => ⟨_, (returns 0 s hp).1, frame_setSP _ s⟩
  · exact reachLaw_of_next fun s _ ⟨h0, h2, hx⟩ =>
      ⟨_, ((returns 0 s h0).2.2 h2 hx).1, frame_returnedFar s _ _ _⟩
  · exact reachLaw_of_next fun s _ ⟨h0, h2, hx⟩ =>
      ⟨_, ((returns n s h0).2.2 h2 hx).2.1, frame_returnedFar s _ _ _⟩
  · exact reachLaw_of_next fun s _ ⟨⟨h0, h2, hx⟩, h4⟩ => ⟨_, ((returns 0 s h0).2.2 h2 hx).2.2 h4,
      framedBy_setSP (framedBy_loadFlags (framedBy_setSReg (framedBy_refl s _ _) (r := .cs)
        (List.mem_singleton.mpr rfl) _) rfl _) (List.mem_singleton.mpr rfl) _⟩
  · exact reachLaw_of_next fun s _ hp => ⟨_, popf s hp,
      framedBy_loadFlags (framedBy_setSP (framedBy_refl s _ _) (List.mem_singleton.mpr rfl) _) rfl _⟩

end Sys2Proof.Machine
end

section
/-! The bytes of an instruction by the shape of its opcode (30_encoding R170, R172, R206, R220). -/

namespace Sys2Proof
open Machine Claims

/-- A ModRM operand is read from its ModRM byte and as many displacement bytes as that byte says. -/
theorem readModRM_split {bytes u : List Byte} {g : BitVec 3} {rm : Rm (BitVec 3)}
    (h : readModRM bytes = some (g, rm, u)) :
    ∃ m disp, bytes = m :: (disp ++ u) ∧ g = regOf m ∧ disp.length = dispLen m ∧
      ((∃ n, rm = .reg n) ↔ modOf m = 3) := by
  unfold readModRM at h
  split at h
  · cases h
  · rename_i m t
    have mod3 (k : Nat) (hk : (modOf m).toNat = k) (h3 : k ≠ 3) : modOf m ≠ 3 := by
      rintro e
      rw [e] at hk
      exact h3 hk.symm
    split at h
    · rename_i hm
      split at h
      · rename_i h6
        split at h <;> cases h
        rename_i l b
        exact ⟨m, [l, b], rfl, rfl, by simp [dispLen, hm, h6], nofun, fun e => absurd e (mod3 _ hm (by decide))⟩
      · rename_i h6
        cases h
        exact ⟨m, [], rfl, rfl, by simpa [dispLen, hm] using h6, nofun, fun e => absurd e (mod3 _ hm (by decide))⟩
    · rename_i hm
      split at h <;> cases h
      rename_i d
      exact ⟨m, [d], rfl, rfl, by simp [dispLen, hm], nofun, fun e => absurd e (mod3 _ hm (by decide))⟩
    · rename_i hm
      split at h <;> cases h
      rename_i l b
      exact ⟨m, [l, b], rfl, rfl, by simp [dispLen, hm], nofun, fun e => absurd e (mod3 _ hm (by decide))⟩
    · rename_i h0 h1 h2
      cases h
      have hm : modOf m = 3 := BitVec.eq_of_toNat_eq (toNat_eq_three h0 h1 h2)
      exact ⟨m, [], rfl, rfl, by simp [dispLen, hm], fun _ => hm, fun _ => ⟨_, rfl⟩⟩

/-- A ModRM shape reads as many immediate bytes as it says, and only at a ModRM byte that has a row. -/
theorem RmShape.finish_exact {sh : RmShape} {op m : Byte} {g : BitVec 3} {rm : Rm (BitVec 3)} {t : List Byte}
    {i : Instr}
    (hm : (∃ n, rm = .reg n) ↔ modOf m = 3) (h : sh.finish op g rm t = .ok (i, [])) :
    t.length = sh.immLen ∧ sh.hasRow m = true := by
  cases sh with
  | hole => cases h
  | rm8 f | rm16 f =>
    cases h
    exact ⟨rfl, rfl⟩
  | mem f =>
    cases rm with
    | reg n => cases h
    | mem e =>
      cases h
      exact ⟨rfl, bne_iff_ne.mpr fun h3 => nomatch hm.mpr h3⟩
  | rm8Imm8 f | rm16Imm16 f | rm16Imm8 f =>
    simp only [RmShape.finish] at h
    split at h <;> cases h
    exact ⟨rfl, rfl⟩

/-- An opcode without a ModRM byte is followed by as many bytes as its shape says. -/
theorem Shape.finish_plain {sh : Shape} {op : Byte} {t : List Byte} {i : Instr} (hm : sh.hasModRM = false)
    (h : sh.finish op t = .ok (i, [])) : t.length = sh.tailLen 0 := by
  cases sh with
  | invalid => cases h
  | plain j => cases h; rfl
  | modrm f => cases hm
  | imm8 f | imm16 f | imm16Imm8 f | far f =>
    simp only [Shape.finish] at h
    split at h <;> cases h
    rfl

/-- An opcode with a ModRM byte is followed by it, its displacement and its immediate. -/
theorem Shape.finish_modrm {sh : Shape} {op : Byte} {t : List Byte} {i : Instr} (hm : sh.hasModRM = true)
    (h : sh.finish op t = .ok (i, [])) :
    ∃ m disp imm, t = m :: (disp ++ imm) ∧ disp.length = dispLen m ∧ imm.length = sh.immLen m ∧ sh.hasRow m = true := by
  cases sh with
  | invalid | plain j | imm8 f | imm16 f | imm16Imm8 f | far f => cases hm
  | modrm f =>
    simp only [Shape.finish] at h
    split at h
    · rename_i g rm u hr
      obtain ⟨m, disp, rfl, rfl, hd, h3⟩ := readModRM_split hr
      obtain ⟨hl, hrow⟩ := RmShape.finish_exact h3 h
      exact ⟨m, disp, u, rfl, hd, hl, hrow⟩
    · cases h

/-- A ModRM byte without a row is followed by no immediate. -/
theorem Shape.immLen_of_not_hasRow {sh : Shape} {m : Byte} (h : sh.hasRow m = false) : sh.immLen m = 0 := by
  cases sh with
  | invalid | plain j | imm8 f | imm16 f | imm16Imm8 f | far f => rfl
  | modrm f =>
    have h' : (f (regOf m)).hasRow m = false := h
    change (f (regOf m)).immLen = 0
    cases hf : f (regOf m) with
    | hole | rm8 _ | rm16 _ | mem _ => rfl
    | rm8Imm8 _ | rm16Imm16 _ | rm16Imm8 _ =>
      rw [hf] at h'
      cases h'

/-- What has no row is not decoded. -/
theorem Shape.finish_of_not_hasRow {sh : Shape} {op m : Byte} {disp : List Byte} {g : BitVec 3} {rm : Rm (BitVec 3)}
    (hm : sh.hasModRM = true) (h : sh.hasRow m = false) (hr : readModRM (m :: disp) = some (g, rm, [])) :
    ∃ e, sh.finish op (m :: disp) = .error e := by
  cases sh with
  | invalid | plain j | imm8 f | imm16 f | imm16Imm8 f | far f => cases hm
  | modrm f =>
    obtain ⟨m', d, hb, rfl, -, h3⟩ := readModRM_split hr
    obtain ⟨rfl, -⟩ := List.cons.inj hb
    have h' : (f (regOf m)).hasRow m = false := h
    simp only [Shape.finish, hr]
    cases hf : f (regOf m) with
    | hole => exact ⟨_, rfl⟩
    | rm8 _ | rm16 _ | rm8Imm8 _ | rm16Imm16 _ | rm16Imm8 _ =>
      rw [hf] at h'
      cases h'
    | mem F =>
      rw [hf] at h'
      obtain ⟨n, rfl⟩ := h3.mpr (bne_eq_false_iff_eq.mp h')
      exact ⟨_, rfl⟩

theorem decode_encode {i : Instr} (h : i.wf = true) : decode (encode i) = .ok (i, []) := by
  have hd := decodeOfEncode i [] h
  rwa [List.append_nil] at hd

theorem encode_cons {i : Instr} (h : i.wf = true) : ∃ op t, encode i = op :: t := by
  have hd := decode_encode h
  cases he : encode i with
  | nil =>
    rw [he] at hd
    cases hd
  | cons op t => exact ⟨op, t, rfl⟩

/-! ### The verdicts that the host's settings may place -/

/-- The encodings whose verdict falls at the ModRM byte are those of the statements (60 R654). -/
theorem dispatchHole_iff (op m : Byte) : dispatchHole op (regOf m) = true ↔ atDispatch op m := by
  by_cases hFE : op = 0xFE#8
  · subst hFE
    unfold atDispatch
    revert m; decide
  by_cases hFF : op = 0xFF#8
  · subst hFF
    unfold atDispatch
    revert m; decide
  by_cases hF6 : op = 0xF6#8
  · subst hF6
    unfold atDispatch
    revert m; decide
  by_cases hF7 : op = 0xF7#8
  · subst hF7
    unfold atDispatch
    revert m; decide
  simp [dispatchHole, lacksRule, atDispatch, hFE, hFF, hF6, hF7]

/-- The operation an admitted hole has differs from its own reg field only in a hole (30_encoding R199). -/
theorem admittedReg_of_hasRow {op m : Byte} (h : (opShape op.toNat).hasRow m = true) :
    admittedReg op (regOf m) = regOf m := by
  rw [hasRow_eq_not_invalidEncoding, Bool.not_eq_true'] at h
  by_cases hs : op ∈ [0xC0#8, 0xC1#8, 0xD0#8, 0xD1#8, 0xD2#8, 0xD3#8, 0xF6#8, 0xF7#8]
  · simp only [List.mem_cons, List.not_mem_nil, or_false] at hs
    obtain rfl | rfl | rfl | rfl | rfl | rfl | rfl | rfl := hs <;> (revert m; decide)
  · simp only [List.mem_cons, List.not_mem_nil, or_false, not_or] at hs
    simp [admittedReg, hs]

theorem rowByte_of_admittedReg {p : Params} {op m : Byte} (h : admittedReg op (regOf m) = regOf m) :
    rowByte p op m = m := by
  unfold rowByte
  split
  · rw [h, modrmByte_fields]
  · rfl

theorem not_dispatchHole_of_hasRow {op m : Byte} (h : (opShape op.toNat).hasRow m = true) :
    dispatchHole op (regOf m) = false := by
  rw [hasRow_eq_not_invalidEncoding, Bool.not_eq_true'] at h
  rw [← Bool.not_eq_true, dispatchHole_iff]
  exact fun ⟨hi, _⟩ => Bool.false_ne_true (h.symm.trans hi)

theorem not_lacksRule {op : Byte} {g : BitVec 3} (h : dispatchHole op g = false) : lacksRule op g = false := by
  rw [← Bool.not_eq_true] at h ⊢
  exact mt dispatchHole_of_lacksRule h

end Sys2Proof
end

section
/-! The fetch of the bytes that stand at CS:IP, and the slot that runs what they decode to (30_encoding section 2, 60
section 5). -/

namespace Sys2Proof.Machine
open Claims

/-! ### Bytes fetched -/

/-- The machine with IP past `n` bytes. -/
def afterBytes (n : Nat) (s : State) : State := s.setIP (s.ip + BitVec.ofNat 16 n)

theorem afterBytes_zero (s : State) : afterBytes 0 s = s := congrArg s.setIP (BitVec.add_zero s.ip)

theorem afterBytes_add (a b : Nat) (s : State) : afterBytes b (afterBytes a s) = afterBytes (a + b) s := by
  refine congrArg s.setIP ?_
  rw [BitVec.ofNat_add, ← BitVec.add_assoc]
  rfl

theorem bytesAt_congr {s t : State} (hm : t.mem = s.mem) (hb : t.bus = s.bus) (seg off : Word) (n : Nat) :
    bytesAt t seg off n = bytesAt s seg off n := by
  induction n generalizing off with
  | zero => rfl
  | succ n ih => rw [bytesAt, bytesAt, ih, State.byteAt, State.byteAt, hm, hb]

/-- The code at CS:IP is that of the bytes behind it, whatever else changes. -/
theorem codeIs_congr {s t : State} {l : List Byte} (hm : t.mem = s.mem) (hb : t.bus = s.bus) (hs : t.sregs = s.sregs)
    (hi : t.ip = s.ip) (h : codeIs s l) : codeIs t l := by
  obtain ⟨hl, hr⟩ := h
  refine ⟨?_, fun k hk => ?_⟩
  · rwa [bytesAt_congr hm hb, hs, hi]
  · rw [readable8, hb, hs, hi]
    exact hr k hk

theorem codeIs_cons {s : State} {b : Byte} {l : List Byte} (h : codeIs s (b :: l)) :
    s.byteAt s.sregs.cs s.ip = b ∧ readable8 s s.sregs.cs s.ip ∧ codeIs (afterBytes 1 s) l := by
  obtain ⟨hb, hr⟩ := h
  obtain ⟨h0, ht⟩ := List.cons.inj hb
  refine ⟨h0, ?_, (bytesAt_congr (s := s) (t := afterBytes 1 s) rfl rfl _ _ _).trans ht, fun k hk => ?_⟩
  · have := hr 0 (Nat.succ_pos _)
    rwa [show s.ip + BitVec.ofNat 16 0 = s.ip from BitVec.add_zero _] at this
  · have := hr (k + 1) (Nat.succ_lt_succ hk)
    rw [Nat.add_comm k 1, BitVec.ofNat_add, ← BitVec.add_assoc] at this
    exact this

theorem codeIs_append {s : State} {a b : List Byte} (h : codeIs s (a ++ b)) :
    codeIs s a ∧ codeIs (afterBytes a.length s) b := by
  induction a generalizing s with
  | nil =>
    refine ⟨⟨rfl, nofun⟩, ?_⟩
    rw [List.length_nil, afterBytes_zero]
    exact h
  | cons x a ih =>
    obtain ⟨h0, hr, ht⟩ := codeIs_cons h
    obtain ⟨⟨hb, hra⟩, hrest⟩ := ih ht
    refine ⟨⟨?_, fun k hk => ?_⟩, ?_⟩
    · exact congrArg₂ List.cons h0 ((bytesAt_congr (s := s) (t := afterBytes 1 s) rfl rfl _ _ _).symm.trans hb)
    · cases k with
      | zero => rwa [show s.ip + BitVec.ofNat 16 0 = s.ip from BitVec.add_zero _]
      | succ k =>
        rw [Nat.add_comm k 1, BitVec.ofNat_add, ← BitVec.add_assoc]
        exact hra k (Nat.lt_of_succ_lt_succ hk)
    · rwa [afterBytes_add, Nat.add_comm] at hrest

theorem fetch8_of_codeIs {s : State} {b : Byte} {l : List Byte} (h : codeIs s (b :: l)) :
    fetch8 s = .ok b (afterBytes 1 s) := by
  obtain ⟨h0, hr, -⟩ := codeIs_cons h
  rw [fetch8, memRead8_eq hr, h0]
  rfl

theorem fetchBytes_of_codeIs {s : State} {l : List Byte} (h : codeIs s l) :
    fetchBytes l.length s = .ok l (afterBytes l.length s) := by
  induction l generalizing s with
  | nil => rw [List.length_nil, afterBytes_zero]; rfl
  | cons b l ih =>
    obtain ⟨-, -, ht⟩ := codeIs_cons h
    rw [List.length_cons, fetchBytes, fetch8_of_codeIs h, Res.bind_ok, ih ht, afterBytes_add, Nat.add_comm]
    rfl

/-! ### One instruction fetched -/

section
variable {s : State} {op m : Byte} {tail disp imm : List Byte}

theorem fetchInstr_of_refused (h : codeIs s (op :: tail)) (hr : opcodeRefused s.params op = true) :
    fetchInstr s = .raise .invalidOpcode (afterBytes 1 s) := by
  rw [fetchInstr, fetch8_of_codeIs h, Res.bind_ok]
  exact if_pos hr

theorem fetchInstr_of_plain (h : codeIs s (op :: tail)) (hr : opcodeRefused s.params op = false)
    (hm : (opShape op.toNat).hasModRM = false) (hl : tail.length = (opShape op.toNat).tailLen 0) :
    fetchInstr s = decodedPlain op tail (afterBytes (tail.length + 1) s) := by
  obtain ⟨-, -, ht⟩ := codeIs_cons h
  have tail_fetched := fetchBytes_of_codeIs ht
  rw [afterBytes_add, Nat.add_comm] at tail_fetched
  rw [fetchInstr, fetch8_of_codeIs h, Res.bind_ok]
  have hr' : opcodeRefused (afterBytes 1 s).params op = false := hr
  simp only [hr', hm, Bool.false_eq_true, if_false]
  rw [← hl, tail_fetched, Res.bind_ok]

theorem fetchInstr_of_modrm (h : codeIs s (op :: tail)) (hr : opcodeRefused s.params op = false)
    (hm : (opShape op.toNat).hasModRM = true) : fetchInstr s = fetchModRM op (afterBytes 1 s) := by
  rw [fetchInstr, fetch8_of_codeIs h, Res.bind_ok]
  have hr' : opcodeRefused (afterBytes 1 s).params op = false := hr
  simp only [hr', hm, Bool.false_eq_true, if_false, if_true]

/-- The verdict at the ModRM byte. -/
theorem fetchModRM_of_refused (h : codeIs s (m :: tail)) (hr : refusedAtModRM s.params op m = true) :
    fetchModRM op s = .raise .invalidOpcode (afterBytes 1 s) := by
  rw [fetchModRM, fetch8_of_codeIs h, Res.bind_ok]
  exact if_pos hr

theorem fetchModRM_of_noMeaning (h : codeIs s (m :: tail)) (hr : refusedAtModRM s.params op m = false)
    (hl : lacksRule op (regOf m) = true) : fetchModRM op s = .ok .noMeaning (afterBytes 1 s) := by
  rw [fetchModRM, fetch8_of_codeIs h, Res.bind_ok]
  have hr' : refusedAtModRM (afterBytes 1 s).params op m = false := hr
  simp only [hr', hl, Bool.false_eq_true, if_false, if_true]

/-- Past the ModRM byte the displacement is fetched. -/
theorem fetchModRM_of_disp (h : codeIs s (m :: (disp ++ imm))) (hr : refusedAtModRM s.params op m = false)
    (hl : lacksRule op (regOf m) = false) (hd : disp.length = dispLen m) :
    fetchModRM op s =
      if pairRefused s.params op m then .raise .invalidOpcode (openOperand (m :: disp) (afterBytes (disp.length + 1) s))
      else (fetchImm op m disp (afterBytes (disp.length + 1) s)).bind fun imm u => decodedModRM op m disp imm u := by
  obtain ⟨-, -, ht⟩ := codeIs_cons h
  have disp_fetched := fetchBytes_of_codeIs (codeIs_append ht).1
  rw [afterBytes_add, Nat.add_comm] at disp_fetched
  rw [fetchModRM, fetch8_of_codeIs h, Res.bind_ok]
  have hr' : refusedAtModRM (afterBytes 1 s).params op m = false := hr
  simp only [hr', hl, Bool.false_eq_true, if_false]
  rw [← hd, disp_fetched, Res.bind_ok]
  rfl

/-- Where nothing refuses it, an instruction with a ModRM byte is decoded by the row of that byte. -/
theorem fetchModRM_of_imm (h : codeIs s (m :: (disp ++ imm))) (hr : refusedAtModRM s.params op m = false)
    (hl : lacksRule op (regOf m) = false) (hp : pairRefused s.params op m = false) (hd : disp.length = dispLen m)
    (hi : imm.length = (opShape op.toNat).immLen (rowByte s.params op m)) :
    fetchModRM op s = decodedModRM op m disp imm (afterBytes ((disp ++ imm).length + 1) s) := by
  obtain ⟨-, -, ht⟩ := codeIs_cons h
  have imm_fetched := fetchBytes_of_codeIs (codeIs_append ht).2
  rw [afterBytes_add, afterBytes_add] at imm_fetched
  have hb : fetchImm op m disp (afterBytes (disp.length + 1) s) =
      .ok imm (afterBytes ((disp ++ imm).length + 1) s) := by
    have hi' : (opShape op.toNat).immLen (rowByte (afterBytes (disp.length + 1) s).params op m) = imm.length := hi.symm
    rw [fetchImm, hi', Nat.add_comm disp.length 1, imm_fetched, List.length_append, Nat.add_comm _ 1, Nat.add_assoc]
  rw [fetchModRM_of_disp h hr hl hd, hp, hb]
  rfl

/-- A ModRM byte without a row, decoded by itself, is invalid once its operand is decoded. -/
theorem fetchModRM_of_no_row {g : BitVec 3} {rm : Rm (BitVec 3)} (h : codeIs s (m :: disp))
    (hr : refusedAtModRM s.params op m = false) (hl : lacksRule op (regOf m) = false)
    (hm : (opShape op.toNat).hasModRM = true)
    (hrow : (opShape op.toNat).hasRow m = false)
    (hrb : pairRefused s.params op m = false → rowByte s.params op m = m)
    (hread : readModRM (m :: disp) = some (g, rm, [])) :
    fetchModRM op s = .raise .invalidOpcode (openOperand (m :: disp) (afterBytes (disp.length + 1) s)) := by
  obtain ⟨m', d, hb, -, hd, -⟩ := readModRM_split hread
  obtain ⟨rfl, hd'⟩ := List.cons.inj hb
  rw [List.append_nil] at hd'
  subst hd'
  cases hp : pairRefused s.params op m with
  | true =>
    rw [fetchModRM_of_disp (imm := []) (by rwa [List.append_nil]) hr hl hd, hp]
    rfl
  | false =>
    obtain ⟨e, he⟩ := Shape.finish_of_not_hasRow (op := op) hm hrow hread
    have himm : (opShape op.toNat).immLen m = 0 := Shape.immLen_of_not_hasRow hrow
    rw [fetchModRM_of_imm (imm := []) (by rwa [List.append_nil]) hr hl hp hd (by rw [hrb hp, himm]; rfl), decodedModRM]
    have hrb' : rowByte (afterBytes ((disp ++ []).length + 1) s).params op m = m := hrb hp
    rw [List.append_nil] at hrb' ⊢
    simp only [hrb', decode_cons, he]

/-- The encoding of a well-formed instruction that nothing refuses is fetched as that instruction. -/
theorem fetchInstr_of_encode {i : Instr} (hw : i.wf = true) (hc : codeIs s (encode i))
    (ha : admitted s.params (encode i)) : fetchInstr s = .ok (.row i) (afterBytes (encode i).length s) := by
  have hd := decode_encode hw
  obtain ⟨op, t, he⟩ := encode_cons hw
  rw [he] at hc ha hd ⊢
  obtain ⟨hr, hp⟩ := ha
  cases hm : (opShape op.toNat).hasModRM with
  | false =>
    rw [fetchInstr_of_plain hc hr hm (Shape.finish_plain hm hd), decodedPlain, hd]
    rfl
  | true =>
    obtain ⟨m, disp, imm, rfl, hdl, hil, hrow⟩ := Shape.finish_modrm hm hd
    have hpr : pairRefused s.params op m = false := hp hm m _ rfl
    have hnd := not_dispatchHole_of_hasRow hrow
    have hrb : rowByte s.params op m = m := rowByte_of_admittedReg (admittedReg_of_hasRow hrow)
    obtain ⟨-, -, ht⟩ := codeIs_cons hc
    rw [fetchInstr_of_modrm hc hr hm, fetchModRM_of_imm ht (refusedAtModRM_row hpr hnd) (not_lacksRule hnd) hpr hdl
      (by rw [show rowByte (afterBytes 1 s).params op m = m from hrb]; exact hil), afterBytes_add, decodedModRM]
    have hrb' : rowByte (afterBytes (1 + ((disp ++ imm).length + 1)) s).params op m = m := hrb
    simp only [hrb', hd, if_true]
    rw [List.length_cons, List.length_cons, Nat.add_comm 1]

end

end Sys2Proof.Machine
end

section
/-! A slot: the prefixes, then the instruction or the fault of its fetch (30_encoding section 2, 60 section 5). -/

namespace Sys2Proof.Machine
open Claims

/-! ### Prefix bytes -/

theorem afterBytes_prefixState (n : Nat) (i : Instr) (s : State) :
    afterBytes n (prefixState i s) = prefixState i (afterBytes n s) := by
  unfold prefixState
  split <;> rfl

theorem afterBytes_prefixRun (n : Nat) (ps : List Instr) (s : State) :
    afterBytes n (prefixRun ps s) = prefixRun ps (afterBytes n s) := by
  induction ps generalizing s with
  | nil => rfl
  | cons p ps ih =>
    rw [prefixRun, prefixRun, ih, afterBytes_prefixState]

/-- A prefix sets its part of the prefix state alone. -/
theorem prefixState_eq (i : Instr) (s : State) :
    prefixState i s =
      { s with
        segOverride := (prefixState i s).segOverride, rep := (prefixState i s).rep,
        lock := (prefixState i s).lock } := by
  unfold prefixState
  split <;> rfl

theorem prefixRun_eq (ps : List Instr) (s : State) :
    prefixRun ps s =
      { s with
        segOverride := (prefixRun ps s).segOverride, rep := (prefixRun ps s).rep, lock := (prefixRun ps s).lock } := by
  induction ps generalizing s with
  | nil => rfl
  | cons p ps ih =>
    rw [prefixRun, ih, prefixState_eq]

theorem codeIs_prefixRun {s : State} {l : List Byte} (ps : List Instr) (h : codeIs s l) :
    codeIs (prefixRun ps s) l := by
  rw [prefixRun_eq]
  exact codeIs_congr (s := s) rfl rfl rfl rfl h

theorem codeIs_prefixState {s : State} {l : List Byte} (p : Instr) (h : codeIs s l) : codeIs (prefixState p s) l :=
  codeIs_prefixRun [p] h

/-- A prefix is one byte, that nothing refuses. -/
theorem prefix_facts {p : Instr} (h : p.isPrefix = true) (q : Params) :
    p.wf = true ∧ (encode p).length = 1 ∧ admitted q (encode p) := by
  have refused (b : Byte) (hb : prefixByte b = true) (hm : (opShape b.toNat).hasModRM = false) : admitted q [b] :=
    ⟨opcodeRefused_prefix hb, fun e => Bool.false_ne_true (hm.symm.trans e) |>.elim⟩
  cases p with
  | prefixEs | prefixCs | prefixSs | prefixDs | prefixLock | prefixRepne | prefixRep =>
    exact ⟨rfl, rfl, refused _ rfl rfl⟩
  | _ => cases h

theorem slotBody_of_fetched {s u : State} {i : Instr} (n : Nat) (h : fetchInstr s = .ok (.row i) u) :
    slotBody (n + 1) s = afterFetch (slotBody n) i u := by
  rw [slotBody, h]

theorem slotBody_of_prefix {s u : State} {p : Instr} (n : Nat) (hp : p.isPrefix = true)
    (h : fetchInstr s = .ok (.row p) u) : slotBody (n + 1) s = slotBody n (prefixState p u) := by
  rw [slotBody_of_fetched n h, afterFetch, if_pos hp, exec_prefix u hp]

theorem slotBody_of_instruction {s u : State} {i : Instr} (n : Nat) (hi : i.isPrefix = false)
    (h : fetchInstr s = .ok (.row i) u) : slotBody (n + 1) s = exec i u := by
  rw [slotBody_of_fetched n h, afterFetch, hi]
  rfl

/-- A run of prefix bytes is consumed, and the slot goes on in the prefix state they set. -/
theorem slotBody_prefixes {s : State} {ps : List Instr} {l : List Byte} (n : Nat) (hp : ∀ p ∈ ps, p.isPrefix = true)
    (hc : codeIs s (ps.flatMap encode ++ l)) :
    slotBody (ps.length + n) s = slotBody n (prefixRun ps (afterBytes ps.length s)) := by
  induction ps generalizing s with
  | nil => rw [List.length_nil, Nat.zero_add, afterBytes_zero]; rfl
  | cons p ps ih =>
    rw [List.flatMap_cons, List.append_assoc] at hc
    obtain ⟨hw, hl, ha⟩ := prefix_facts (hp p List.mem_cons_self) s.params
    obtain ⟨hfirst, hrest⟩ := codeIs_append hc
    have fetched := fetchInstr_of_encode hw hfirst ha
    rw [hl] at fetched hrest
    have next := ih (s := prefixState p (afterBytes 1 s)) (fun q hq => hp q (List.mem_cons_of_mem p hq))
      (codeIs_prefixState p hrest)
    rw [List.length_cons, Nat.succ_add, slotBody_of_prefix _ (hp p List.mem_cons_self) fetched, next, prefixRun,
      afterBytes_prefixState, afterBytes_add, Nat.add_comm]

/-! ### The step of a running machine -/

theorem runSlot_eq (s : State) : runSlot s = slotEnd (slotBody slotFuel (beginSlot s)) := by
  unfold runSlot
  cases slotBody slotFuel (beginSlot s) <;> rfl

theorem codeIs_beginSlot {s : State} {l : List Byte} (h : codeIs s l) : codeIs (beginSlot s) l :=
  codeIs_congr (s := s) rfl rfl rfl rfl h

/-- The state in which the bytes after a run of prefixes are fetched. -/
def afterPrefixes (s : State) (ps : List Instr) : State := prefixRun ps (fetched s ps.length)

/-- The step after a run of prefixes is one slot body more, at the state they set. -/
theorem step_after_prefixes {s : State} {ps : List Instr} {l : List Byte} (ho : opensSlot s ps)
    (hc : codeIs s (ps.flatMap encode ++ l)) :
    ∃ n, step s = slotEnd (slotBody (n + 1) (afterPrefixes s ps)) ∧ codeIs (afterPrefixes s ps) l := by
  obtain ⟨hf, hh, hp, hn⟩ := ho
  obtain ⟨n, hn⟩ := Nat.exists_eq_add_of_lt hn
  have hc' := codeIs_beginSlot hc
  have len : (ps.flatMap encode).length = ps.length := by
    rw [List.length_flatMap, List.map_congr_left fun p h => (prefix_facts (hp p h) s.params).2.1]
    simp
  refine ⟨n, ?_, ?_⟩
  · rw [step_of_running hf hh, runSlot_eq, hn, Nat.add_assoc, slotBody_prefixes (n + 1) hp hc']
    rfl
  · have rest := (codeIs_append hc').2
    rw [len] at rest
    exact codeIs_prefixRun ps rest

/-- The bytes fetched after the prefixes. -/
theorem afterBytes_afterPrefixes (n : Nat) (s : State) (ps : List Instr) :
    afterBytes n (afterPrefixes s ps) = prefixRun ps (fetched s (ps.length + n)) := by
  rw [afterPrefixes, afterBytes_prefixRun]
  exact congrArg (prefixRun ps) (afterBytes_add ps.length n (beginSlot s))

theorem params_afterPrefixes (s : State) (ps : List Instr) : (afterPrefixes s ps).params = s.params := by
  rw [afterPrefixes, prefixRun_eq]
  rfl

/-- Settles O6: the prefixes are consumed one by one, then the instruction is fetched and run. -/
theorem prefixesFoldIntoTheSlot : Obligations.PrefixesFoldIntoTheSlot := by
  intro s ps i hf hh hp hn hw hi hc ha
  obtain ⟨n, hstep, hc'⟩ := step_after_prefixes ⟨hf, hh, hp, hn⟩ hc
  have fetched := fetchInstr_of_encode hw hc' (by rwa [params_afterPrefixes])
  rw [hstep, slotBody_of_instruction n hi fetched, afterBytes_afterPrefixes]

/-- Settles O5: a slot without prefixes. -/
theorem stepRunsDecodedInstruction : Obligations.StepRunsDecodedInstruction := by
  intro s i hf hh hw hi hc ha
  have code : codeIs s (([] : List Instr).flatMap encode ++ encode i) := by
    rwa [List.flatMap_nil, List.nil_append]
  have none_prefix : ∀ p ∈ ([] : List Instr), p.isPrefix = true := fun p hp => absurd hp List.not_mem_nil
  have h := prefixesFoldIntoTheSlot s [] i hf hh none_prefix (Nat.succ_pos _) hw hi code ha
  rw [List.length_nil, Nat.zero_add, prefixRun] at h
  exact h

end Sys2Proof.Machine
end

section
/-! Invalid encodings behind prefixes, and those the host admits (30_encoding section 7, 60 sections 4 and 5). -/

namespace Sys2Proof.Machine
open Claims

/-! ### What a fetch makes of the step -/

section
variable {s : State} {ps : List Instr} {l : List Byte} (ho : opensSlot s ps) (hc : codeIs s (ps.flatMap encode ++ l))
include ho hc

/-- The verdict InvalidOpcode at a state that keeps the parameters and the latch. -/
theorem invalidAt_of_raise {o : State} (hf : fetchInstr (afterPrefixes s ps) = .raise .invalidOpcode o)
    (hp : o.params = s.params) (hi : o.ipStart = s.ip) : invalidAt s o := by
  obtain ⟨n, hstep, -⟩ := step_after_prefixes ho hc
  rw [invalidAt, hstep, slotBody, hf, ← hp, ← hi]
  rfl

theorem step_of_noMeaning {o : State} (hf : fetchInstr (afterPrefixes s ps) = .ok .noMeaning o) :
    step s = .refused .encodingWithoutMeaning := by
  obtain ⟨n, hstep, -⟩ := step_after_prefixes ho hc
  rw [hstep, slotBody, hf]
  rfl

theorem step_of_popCs {o : State} (hf : fetchInstr (afterPrefixes s ps) = .ok .popCs o) :
    step s = slotEnd (popSReg .cs o).outcome := by
  obtain ⟨n, hstep, -⟩ := step_after_prefixes ho hc
  rw [hstep, slotBody, hf]

theorem step_of_row {o : State} {i : Instr} (hi : i.isPrefix = false)
    (hf : fetchInstr (afterPrefixes s ps) = .ok (.row i) o) : step s = slotEnd (exec i o) := by
  obtain ⟨n, hstep, -⟩ := step_after_prefixes ho hc
  rw [hstep, slotBody_of_instruction n hi hf]

end

/-- The state after the prefixes and `n` bytes. -/
def slotAt (s : State) (ps : List Instr) (n : Nat) : State := prefixRun ps (fetched s (ps.length + n))

theorem slotAt_params (s : State) (ps : List Instr) (n : Nat) : (slotAt s ps n).params = s.params := by
  rw [slotAt, prefixRun_eq]
  rfl

theorem slotAt_ipStart (s : State) (ps : List Instr) (n : Nat) : (slotAt s ps n).ipStart = s.ip := by
  rw [slotAt, prefixRun_eq]
  rfl

theorem slotAt_fresh (s : State) (ps : List Instr) (n : Nat) : fresh (slotAt s ps n) := by
  rw [slotAt, prefixRun_eq]
  rfl

/-! ### Opcodes without a row -/

theorem opShape_of_rowless {op : Byte} (h : op ∈ rowless) : opShape op.toNat = .invalid := by
  simp only [rowless, List.mem_cons, List.not_mem_nil, or_false] at h
  obtain rfl | rfl | rfl | rfl | rfl | rfl | rfl | rfl := h <;> rfl

theorem fetchInstr_of_rowless {s : State} {op : Byte} (hc : codeIs s [op]) (hr : opcodeRefused s.params op = false)
    (h : op ∈ rowless) :
    fetchInstr s =
      if takenOut s.params [op] then .ok (if op = 0x0F then .popCs else .noMeaning) (afterBytes 1 s)
      else .raise .invalidOpcode (afterBytes 1 s) := by
  have hs := opShape_of_rowless h
  rw [fetchInstr_of_plain hc hr (by rw [hs]; rfl) (by rw [hs]; rfl), decodedPlain, decode_cons, hs]
  rfl

/-- The opcode byte alone decides. -/
theorem invalid_by_opcode {s : State} {ps : List Instr} {op : Byte} (ho : opensSlot s ps)
    (hc : codeIs s (ps.flatMap encode ++ [op]))
    (h : opcodeRefused s.params op = true ∨ (op ∈ rowless ∧ takenOut s.params [op] = false)) :
    invalidAt s (slotAt s ps 1) := by
  obtain ⟨-, -, hc'⟩ := step_after_prefixes ho hc
  have raised : fetchInstr (afterPrefixes s ps) = .raise .invalidOpcode (slotAt s ps 1) := by
    cases hr : opcodeRefused s.params op with
    | true =>
      rw [fetchInstr_of_refused hc' (by rwa [params_afterPrefixes]), afterBytes_afterPrefixes]
      rfl
    | false =>
      obtain ⟨hrow, ht⟩ := h.resolve_left fun e => Bool.false_ne_true (hr.symm.trans e)
      rw [fetchInstr_of_rowless hc' (by rwa [params_afterPrefixes]) hrow, params_afterPrefixes, ht,
        afterBytes_afterPrefixes]
      rfl
  exact invalidAt_of_raise ho hc raised (slotAt_params s ps 1) (slotAt_ipStart s ps 1)

/-- An opcode without a row that the host admits. -/
theorem fetchInstr_of_admitted_rowless {s : State} {ps : List Instr} {op : Byte} (ho : opensSlot s ps)
    (hc : codeIs s (ps.flatMap encode ++ [op])) (hr : opcodeRefused s.params op = false) (h : op ∈ rowless)
    (ht : takenOut s.params [op] = true) :
    fetchInstr (afterPrefixes s ps) = .ok (if op = 0x0F then .popCs else .noMeaning) (slotAt s ps 1) := by
  obtain ⟨-, -, hc'⟩ := step_after_prefixes ho hc
  rw [fetchInstr_of_rowless hc' (by rwa [params_afterPrefixes]) h, params_afterPrefixes, ht, afterBytes_afterPrefixes]
  rfl

/-- POP CS as the 8086 runs it. -/
theorem popCS_of_canPop {o : State} (hp : canPop o 0) :
    let u := o.setSP (o.regs.sp + 2)
    let v := stacked o 0
    (o.bus.isExecutable v = true → slotEnd (popSReg .cs o).outcome = .next (endSlot (u.setSReg .cs v))) ∧
      (o.bus.isExecutable v = false →
        slotEnd (popSReg .cs o).outcome = .next (endSlot (handleFault (.nonExecutableSegment v) u))) := by
  intro u v
  have pop : popSReg .cs o = writeCS v u := popSReg_eq hp .cs
  refine ⟨fun hx => ?_, fun hx => ?_⟩
  · rw [pop, writeCS_of_executable (s := u) hx]
    rfl
  · rw [pop, writeCS_of_not_executable (s := u) hx]
    rfl

/-! ### The verdict at a ModRM byte -/

theorem afterBytes_slotAt (n : Nat) (s : State) (ps : List Instr) (k : Nat) :
    afterBytes n (slotAt s ps k) = slotAt s ps (k + n) := by
  rw [slotAt, ← afterBytes_afterPrefixes, afterBytes_add, afterBytes_afterPrefixes, slotAt]

section
variable {s : State} {ps : List Instr} {op m : Byte} {l : List Byte} (ho : opensSlot s ps)
  (hc : codeIs s (ps.flatMap encode ++ op :: l)) (hm : (opShape op.toNat).hasModRM = true)
  (hr : opcodeRefused s.params op = false)
include ho hc hm hr

/-- Past an opcode with a ModRM byte that is not refused. -/
theorem fetchInstr_at_modrm :
    fetchInstr (afterPrefixes s ps) = fetchModRM op (slotAt s ps 1) ∧ codeIs (slotAt s ps 1) l := by
  obtain ⟨-, -, hc'⟩ := step_after_prefixes ho hc
  obtain ⟨-, -, rest⟩ := codeIs_cons hc'
  rw [afterBytes_afterPrefixes] at rest
  rw [fetchInstr_of_modrm hc' (by rwa [params_afterPrefixes]) hm, afterBytes_afterPrefixes]
  exact ⟨rfl, rest⟩

end

section
variable {s : State} {ps : List Instr} {op m : Byte} (ho : opensSlot s ps)
  (hc : codeIs s (ps.flatMap encode ++ [op, m])) (hm : (opShape op.toNat).hasModRM = true)
  (hr : opcodeRefused s.params op = false)
include ho hc hm hr

theorem invalidAt_of_refusedAtModRM (h : refusedAtModRM s.params op m = true) : invalidAt s (slotAt s ps 2) := by
  obtain ⟨hf, hc'⟩ := fetchInstr_at_modrm ho hc hm hr
  have raised := fetchModRM_of_refused hc' (by rwa [slotAt_params])
  rw [afterBytes_slotAt] at raised
  exact invalidAt_of_raise ho hc (hf.trans raised) (slotAt_params s ps 2) (slotAt_ipStart s ps 2)

theorem step_of_lacksRule (h : refusedAtModRM s.params op m = false) (hl : lacksRule op (regOf m) = true) :
    step s = .refused .encodingWithoutMeaning := by
  obtain ⟨hf, hc'⟩ := fetchInstr_at_modrm ho hc hm hr
  exact step_of_noMeaning ho hc (hf.trans (fetchModRM_of_noMeaning hc' (by rwa [slotAt_params]) hl))

end

theorem refusedAtModRM_of_pairRefused {p : Params} {op m : Byte} (hp : pairRefused p op m = true)
    (h : invalidEncoding op m = false ∨ atDispatch op m) : refusedAtModRM p op m = true := by
  cases hd : dispatchHole op (regOf m) with
  | true => rw [refusedAtModRM_dispatchHole hd, hp, Bool.true_or]
  | false =>
    have row := h.resolve_right fun e => Bool.false_ne_true (hd.symm.trans ((dispatchHole_iff op m).mpr e))
    simp [refusedAtModRM, hd, hp, hasRow_eq_not_invalidEncoding, row]

theorem refusedAtModRM_of_not_takenOut {p : Params} {op m : Byte} (h : atDispatch op m)
    (ht : takenOut p [op, m] = false) :
    refusedAtModRM p op m = true := by
  rw [refusedAtModRM_dispatchHole ((dispatchHole_iff op m).mpr h), ht, Bool.not_false, Bool.or_true]

theorem refusedAtModRM_of_admitted {p : Params} {op m : Byte} (hp : pairRefused p op m = false)
    (ht : takenOut p [op, m] = true) : refusedAtModRM p op m = false := by
  simp [refusedAtModRM, hp, ht]

theorem refusedAtModRM_of_own_rule {p : Params} {op m : Byte} (hi : invalidEncoding op m = true)
    (h : ¬atDispatch op m) :
    refusedAtModRM p op m = false := by
  have hd : dispatchHole op (regOf m) = false := by rwa [← Bool.not_eq_true, dispatchHole_iff]
  simp [refusedAtModRM, hd, hasRow_eq_not_invalidEncoding, hi]

/-- FE 2 to 7 and FF 7 have no effect in the spec (30_encoding R220). -/
theorem lacksRule_of_hole {op m : Byte} (hi : invalidEncoding op m = true)
    (h : op = 0xFE ∨ (op = 0xFF ∧ m.toNat / 8 % 8 = 7)) : lacksRule op (regOf m) = true := by
  have hd : dispatchHole op (regOf m) = true :=
    (dispatchHole_iff op m).mpr ⟨hi, h.imp_right Or.inl⟩
  have other : ([0xF6#8, 0xF7#8].contains op && regOf m == 1) = false := by
    obtain rfl | ⟨rfl, -⟩ := h <;> rfl
  rw [dispatchHole] at hd
  rwa [show ([0xF6, 0xF7].contains op && regOf m == 1) = false from other, Bool.or_false] at hd

/-! ### The verdict after the operand -/

/-- Where an own rule decides, the reg field stays what it is. -/
theorem admittedReg_of_ownCheck {op : Byte} {g : BitVec 3} (h : ownCheck op g) : admittedReg op g = g := by
  have other : [0xC0#8, 0xC1#8, 0xD0#8, 0xD1#8, 0xD2#8, 0xD3#8].contains op = false ∧
      [0xF6#8, 0xF7#8].contains op = false := by
    obtain h | ⟨rfl, -⟩ := h
    · simp only [List.mem_cons, List.not_mem_nil, or_false] at h
      obtain rfl | rfl | rfl | rfl | rfl | rfl | rfl | rfl | rfl := h <;> decide
    · decide
  obtain ⟨h1, h2⟩ := other
  unfold admittedReg
  rw [show ([0xC0, 0xC1, 0xD0, 0xD1, 0xD2, 0xD3].contains op) = false from h1,
    show ([0xF6, 0xF7].contains op) = false from h2]
  rfl

/-- An encoding without a row whose own rule decides it. -/
theorem invalid_by_own_rule {s : State} {ps : List Instr} {op m : Byte} {disp : List Byte} {g : BitVec 3}
    {rm : Rm (BitVec 3)} (ho : opensSlot s ps) (hc : codeIs s (ps.flatMap encode ++ op :: m :: disp))
    (hread : readModRM (m :: disp) = some (g, rm, [])) (hm : (opShape op.toNat).hasModRM = true)
    (hr : opcodeRefused s.params op = false) (hi : invalidEncoding op m = true) (hd : ¬atDispatch op m)
    (h : pairRefused s.params op m = true ∨ takenOut s.params [op, m] = false ∨ ownCheck op g) :
    invalidAt s (opened ⟨g, rm⟩ (slotAt s ps (2 + disp.length))) := by
  obtain ⟨hf, hc'⟩ := fetchInstr_at_modrm ho hc hm hr
  obtain ⟨m', d, hb, hg, -⟩ := readModRM_split hread
  obtain ⟨rfl, -⟩ := List.cons.inj hb
  have hole : dispatchHole op (regOf m) = false := by rwa [← Bool.not_eq_true, dispatchHole_iff]
  have own_row (hp : pairRefused s.params op m = false) : rowByte s.params op m = m := by
    obtain h | h | h := h
    · exact absurd (hp.symm.trans h) Bool.false_ne_true
    · exact rowByte_of_not_takenOut h
    · exact rowByte_of_admittedReg (hg ▸ admittedReg_of_ownCheck h)
  have raised := fetchModRM_of_no_row hc' (by rw [slotAt_params]; exact refusedAtModRM_of_own_rule hi hd)
    (not_lacksRule hole) hm (by rw [hasRow_eq_not_invalidEncoding, hi]; rfl) (by rwa [slotAt_params]) hread
  rw [afterBytes_slotAt, openOperand_eq _ hread, decodeModRM_opened (slotAt_fresh s ps _)] at raised
  rw [show 2 + disp.length = 1 + (disp.length + 1) by omega]
  exact invalidAt_of_raise ho hc (hf.trans raised) (slotAt_params s ps _) (slotAt_ipStart s ps _)

/-! ### The encodings that the host admits -/

theorem wordBytes_append (h l : Byte) : wordBytes (h ++ l) = [l, h] := wordBytes_word16 h l

/-- An admitted hole is the encoding of another instruction but for its reg field. -/
theorem encode_of_admittedRow {op : Byte} {g : BitVec 3} {rm : Rm (BitVec 3)} {imm : List Byte} {i : Instr}
    (hw : rm.wf = true) (h : admittedRow op g rm imm = some i) :
    i.wf = true ∧ i.isPrefix = false ∧ encode i = op :: (modrmBytes (admittedReg op g) rm ++ imm) ∧
      admittedReg op g ≠ g ∧ (opShape op.toNat).hasModRM = true ∧ lacksRule op g = false := by
  unfold admittedRow at h
  split at h
  case h_9 => cases h
  all_goals
    rename_i ho hg
    cases h
    obtain ⟨-, rfl⟩ := BitVec.toNat_eq_nat.mp ho
    obtain ⟨-, rfl⟩ := BitVec.toNat_eq_nat.mp hg
    refine ⟨(Rm.wf_map _ rm).trans hw, rfl, ?_, by decide, rfl, rfl⟩
    simp [encode, encRm8, encRm16, Rm.nums8_map, Rm.nums16_map, admittedReg, wordBytes_append]

/-- What follows the displacement of a decoded instruction is its immediate. -/
theorem immLen_of_decode {op r : Byte} {disp imm : List Byte} {i : Instr} (hm : (opShape op.toNat).hasModRM = true)
    (h : decode (op :: r :: (disp ++ imm)) = .ok (i, [])) (hd : disp.length = dispLen r) :
    imm.length = (opShape op.toNat).immLen r := by
  obtain ⟨r', d, v, hb, hd', hv, -⟩ := Shape.finish_modrm hm h
  obtain ⟨rfl, hsplit⟩ := List.cons.inj hb
  have len := congrArg List.length hsplit
  rw [List.length_append, List.length_append] at len
  omega

theorem decodedModRM_of_other_row {s : State} {op m r : Byte} {disp imm : List Byte} {i : Instr}
    (hr : rowByte s.params op m = r) (hne : r ≠ m) (h : decode (op :: r :: (disp ++ imm)) = .ok (i, [])) :
    decodedModRM op m disp imm s = .ok (.row i) (openOperand (m :: disp) s) := by
  subst hr
  rw [decodedModRM]
  simp only [h, if_neg hne]

/-- An admitted hole is fetched as the row it stands for, its operand decoded. -/
theorem step_of_admittedRow {s : State} {ps : List Instr} {op : Byte} {g : BitVec 3} {rm : Rm (BitVec 3)}
    {imm : List Byte} {i : Instr} (ho : opensSlot s ps) (hw : rm.wf = true)
    (hc : codeIs s (ps.flatMap encode ++ op :: (modrmBytes g rm ++ imm))) (hr : opcodeRefused s.params op = false)
    (hp : pairRefused s.params op (modrmByte rm.modField g rm.rmField) = false)
    (ht : takenOut s.params [op, modrmByte rm.modField g rm.rmField] = true) (h : admittedRow op g rm imm = some i) :
    step s = slotEnd (exec i (opened ⟨g, rm⟩ (slotAt s ps (1 + (modrmBytes g rm ++ imm).length)))) := by
  obtain ⟨hi, hpre, he, hne, hm, hl⟩ := encode_of_admittedRow hw h
  obtain ⟨hf, hc'⟩ := fetchInstr_at_modrm ho hc hm hr
  have row : rowByte s.params op (modrmByte rm.modField g rm.rmField) =
      modrmByte rm.modField (admittedReg op g) rm.rmField := by
    rw [rowByte_of_takenOut ht, modOf_modrmByte, regOf_modrmByte, rmOf_modrmByte]
  have other : modrmByte rm.modField (admittedReg op g) rm.rmField ≠ modrmByte rm.modField g rm.rmField :=
    fun e => hne (by rw [← regOf_modrmByte rm.modField (admittedReg op g) rm.rmField, e, regOf_modrmByte])
  have hdec := decode_encode hi
  rw [he, modrmBytes, List.cons_append] at hdec
  have hread := readModRM_modrmBytes g rm [] hw
  rw [List.append_nil, modrmBytes] at hread
  obtain ⟨m', d, hb, -, hd, -⟩ := readModRM_split hread
  obtain ⟨rfl, hd'⟩ := List.cons.inj hb
  rw [List.append_nil] at hd'
  subst hd'
  have himm := immLen_of_decode hm hdec (by rw [← row, dispLen_rowByte, hd])
  have fetched := fetchModRM_of_imm hc' (by rw [slotAt_params]; exact refusedAtModRM_of_admitted hp ht)
    (by rwa [regOf_modrmByte]) (by rwa [slotAt_params]) hd (by rw [slotAt_params, row, himm])
  rw [afterBytes_slotAt, decodedModRM_of_other_row (by rw [slotAt_params, row]) other hdec, openOperand_eq _ hread,
    decodeModRM_opened (slotAt_fresh s ps _)] at fetched
  rw [step_of_row ho hc hpre (hf.trans fetched)]
  rfl

/-- Settles O7, by the place of the verdict: the opcode, the ModRM byte, the operand, or none. -/
theorem invalidOpcodeIsDispatched : Obligations.InvalidOpcodeIsDispatched := by
  refine ⟨fun s ps op ho hc => ⟨invalid_by_opcode ho hc, fun hr hop ht => ?_⟩,
    fun s ps op m ho hc hm hr => ⟨fun ⟨hp, h⟩ => ?_, fun h ht => ?_, fun hp hi ht h => ?_⟩,
    fun s ps op m disp g rm ho hc hread hm hr hi hd h => ?_,
    fun s ps op g rm imm i ho hw hc hr hp ht h => ?_⟩
  · have hf := fetchInstr_of_admitted_rowless ho hc hr hop ht
    refine ⟨fun h0 => ?_, fun h0 hpop => ?_⟩
    · rw [if_neg h0] at hf
      exact step_of_noMeaning ho hc hf
    · rw [if_pos h0] at hf
      rw [step_of_popCs ho hc hf]
      exact popCS_of_canPop hpop
  · exact invalidAt_of_refusedAtModRM ho hc hm hr (refusedAtModRM_of_pairRefused hp h)
  · exact invalidAt_of_refusedAtModRM ho hc hm hr (refusedAtModRM_of_not_takenOut h ht)
  · exact step_of_lacksRule ho hc hm hr (refusedAtModRM_of_admitted hp ht) (lacksRule_of_hole hi h)
  · have verdict := invalid_by_own_rule ho hc hread hm hr hi hd h
    rwa [slotAt, ← Nat.add_assoc] at verdict
  · rw [step_of_admittedRow ho hw hc hr hp ht h, slotAt, Nat.add_assoc]

end Sys2Proof.Machine
end
